-- ==== Sys2Proof/Word.lean ====
section
/-! DEFINITION. The plainest types of the CE32: a byte of a link, a tick of the time base, a channel number. -/

namespace Sys2Proof

/-- One byte of a frame, a record or an answer (Section 8). -/
abbrev Byte := BitVec 8

/-- A value of the 32-bit time base, in ticks of 100 µs; it wraps (R184). -/
abbrev Tick := BitVec 32

/-- A channel number, 0..31 (Conventions, Channels). -/
abbrev ChanId := Fin 32

end Sys2Proof
end

