-- ==== Sys2Proof/Config.lean ====
section
/-! DEFINITION. The constants that the manual fixes for the part: the capacity of each queue, table and stack and
the fixed numbers of its rules, and the model's one free value. -/

namespace Sys2Proof.Config

/-- Entries of the acceptance table (R1). -/
abbrev acceptSize : Nat := 64
/-- Records of the step table (R38). -/
abbrev stepSize : Nat := 1024
/-- Descriptors of the program descriptor table (R44). -/
abbrev programSize : Nat := 64
/-- Segments of the profile segment table (R49). -/
abbrev segmentSize : Nat := 2048
/-- Descriptors of the profile descriptor table (R50). -/
abbrev profileSize : Nat := 32
/-- Limit sets (R102). -/
abbrev limitSize : Nat := 16
/-- Records of the configuration table (R123). -/
abbrev configSize : Nat := 32
/-- Frames of a sequence stack (R60). -/
abbrev stackMax : Nat := 8
/-- Records that one transition may fetch (R64). -/
abbrev chainMax : Nat := 16
/-- Equal readings after the first that give STUCK (R14). -/
abbrev stuckMax : Nat := 32
/-- Least current magnitude, in 10 mA, of a stuck comparison (R14). -/
abbrev stuckCurrent : Nat := 50
/-- Clean deliveries that complete a recovery (R116). -/
abbrev recoveryMax : Nat := 64
/-- Largest violation score (R105). -/
abbrev scoreMax : Nat := 255
/-- What one soft kind adds to the score (R109). -/
abbrev softWeight : Nat := 8
/-- Largest value of a 16-bit saturating counter (R9, R57, R85, R119, R143, R178). -/
abbrev counterMax : Nat := 65535
/-- Largest value of a 32-bit saturating total (R24, R57). -/
abbrev max32 : Nat := 4294967295
/-- Largest magnitude of a step charge or step energy, 2^47 - 1 (R24). -/
abbrev max47 : Nat := 140737488355327
/-- Largest value of a 48-bit accumulator (R24). -/
abbrev max48 : Nat := 281474976710655
/-- Largest value of a 64-bit accumulator (R24). -/
abbrev max64 : Nat := 18446744073709551615
/-- Nanojoules of one millijoule (R23). -/
abbrev nJperMJ : Int := 1000000
/-- Frames that the U→D relay queue holds (R147). -/
abbrev relayDownMax : Nat := 8
/-- Frames that the D→U relay queue holds (R147). -/
abbrev relayUpMax : Nat := 16
/-- Requests that the request queue holds (R157). -/
abbrev requestMax : Nat := 4
/-- Answers that the answer queue holds (R159). -/
abbrev answerMax : Nat := 2
/-- Records that the report queue holds (R177). -/
abbrev reportMax : Nat := 128
/-- Records at which the report queue refuses STEP_END and CYCLE_END (R177). -/
abbrev reportDataMax : Nat := 120
/-- Largest relay wait count of the DN arbiter (R150). -/
abbrev relayWaitMax : Nat := 8
/-- Largest payload of a frame (R141). -/
abbrev payloadMax : Nat := 120
/-- Ticks after the release of RESET_N within which the table clear completes (R183). -/
abbrev clearTicks : Nat := 10
/-- Voltage floor of the CP computation, in mV (R88). -/
abbrev cpFloor : Nat := 500

/-! ## Free values -/

/-- FREE VALUE (R51). How many segment writes of the WRITE_TABLE in execution land before the read at which one
can, by the number of such reads before it: the manual leaves open how the reads of a PROFILE evaluation and the accesses
of the table port fall together. It has no body, so nothing can be proved of its value (notes/assumptions/13.md). -/
opaque writesLanding : Nat → Nat

end Sys2Proof.Config
end

