-- ==== Sys2Proof/Syntax.lean ====
section
/-! DEFINITION. The commands of the block: one constructor per row of spec/opcode_table.json, with the operands that
come with the event from outside the engine. A request row (IDENTIFY, START, WRITE_TABLE_STEP, ...) is the execution of
the request that stands at the head of the request queue (R158), so its operands are that request's own bytes and the
constructor carries none. -/

namespace Sys2Proof

/-- The two link ports (Block Diagram). -/
inductive Port where
  | up
  | dn
  deriving DecidableEq, Repr

/-- A complete frame as it stands on a link (R141): byte 0, the address, the payload whose length is byte 2, and the
CRC, its high byte first. -/
structure Frame where
  byte0   : Byte
  addr    : Byte
  payload : List Byte
  crc     : BitVec 16
  deriving DecidableEq, Repr

/-- The line events that R140 counts in FRAMING. -/
inductive FramingCause where
  /-- A character of a frame whose stop bit is 0. -/
  | stopBit
  /-- 20 consecutive idle bit times before the last byte of a frame. -/
  | truncated
  /-- A 0 in HUNT before 20 consecutive idle bit times. -/
  | strayZero
  deriving DecidableEq, Repr

/-- The rows of the opcode table. -/
inductive Instr where
  -- link ports
  | upFrameReceived (f : Frame)
  | dnFrameReceived (f : Frame)
  | framingError (p : Port) (cause : FramingCause)
  | malformedHeader (p : Port) (byte0 : Byte) (len : Byte)
  -- timers
  | silenceExpiry (c : ChanId)
  | auxFreshnessExpiry (c : ChanId)
  | refreshExpiry (c : ChanId)
  -- table port
  | fetchStart
  | fetchComplete
  | managementAccessStart
  | managementAccessComplete
  -- transmitters
  | dnTransmitStart
  | dnTransmitComplete
  | upTransmitStart
  | upTransmitComplete
  -- engine control and discrete lines
  | tableClearComplete
  | resetNFall
  | resetNRelease (addr : BitVec 4) (rate : Bool)
  | estopNFall
  | estopNRise
  | maintChange (level : Bool)
  -- execution of the request at the head of the request queue
  | unknownRequest
  | identify
  | readTableStep
  | readTableProgram
  | readTableProfileSeg
  | readTableProfile
  | readTableLimit
  | readTableAccept
  | readTableConfig
  | writeTableStep
  | writeTableProgram
  | writeTableProfileSeg
  | writeTableProfile
  | writeTableLimit
  | writeTableAccept
  | writeTableConfig
  | configure
  | start
  | hold
  | resume
  | stop
  | jump
  | clearFault
  | clearTotals
  | undefinedChannelCommand
  | readChannel
  | readAccounts
  | readFault
  | readCounters
  | clearCounters
  | resetEngine
  | clearEstop
  | undefinedEngineCommand
  -- the rest of the table
  | receiverArmed (p : Port)
  | upCrcError
  | timeBaseTick
  | readTableUndefinedTable
  | writeTableUndefinedTable
  deriving DecidableEq, Repr

/-- The rows of the opcode table that are the execution of a management request (R158). -/
inductive RequestRow where
  | unknownRequest
  | identify
  | readTableStep
  | readTableProgram
  | readTableProfileSeg
  | readTableProfile
  | readTableLimit
  | readTableAccept
  | readTableConfig
  | readTableUndefinedTable
  | writeTableStep
  | writeTableProgram
  | writeTableProfileSeg
  | writeTableProfile
  | writeTableLimit
  | writeTableAccept
  | writeTableConfig
  | writeTableUndefinedTable
  | configure
  | start
  | hold
  | resume
  | stop
  | jump
  | clearFault
  | clearTotals
  | undefinedChannelCommand
  | readChannel
  | readAccounts
  | readFault
  | readCounters
  | clearCounters
  | resetEngine
  | clearEstop
  | undefinedEngineCommand
  deriving DecidableEq, Repr

end Sys2Proof
end

