-- ==== Sys2Proof/Decode.lean ====
section
/-! DEFINITION. Reading what comes in: the kind of a frame and the check of its header (R141, R144), and
decodeTableWord. No row of spec/opcode_table.json gives bits (every row's list of fields is empty), so no word spells a
command and decodeTableWord answers none. -/

namespace Sys2Proof

/-- The command that a word of `nbits` bits spells by the table's bits: the table gives none to any row. -/
def decodeTableWord (_nbits _w : Nat) : Option Instr := none

/-- The frame kinds of R144. -/
inductive FrameKind where
  | sample
  | setpoint
  | mgmtReq
  | mgmtAns
  | report
  | transit
  deriving DecidableEq, Repr

/-- The kind in the high four bits of byte 0 (R141, R144); the low four bits are ignored. -/
def frameKind (byte0 : Byte) : FrameKind :=
  match (byte0.toNat / 16) with
  | 1 => .sample
  | 2 => .setpoint
  | 8 => .mgmtReq
  | 9 => .mgmtAns
  | 10 => .report
  | _ => .transit

/-- The header check after byte 2 (R141): a length above 120, a SAMPLE whose length is not 8, a SETPOINT whose length
is not 4. -/
def headerMalformed (byte0 : Byte) (len : Nat) : Bool :=
  len > Config.payloadMax ||
    (match frameKind byte0 with
     | .sample => len != 8
     | .setpoint => len != 4
     | _ => false)

end Sys2Proof
end

