-- ==== Sys2Proof/Machine/State.lean ====
section
/-! DEFINITION. Every piece of state the manual gives the CE32, as plain data, with its value after power-on reset.
INVENTORY.md lists the fields with the rule that names each. -/

namespace Sys2Proof.Machine

open Sys2Proof

/-! ## Tables -/

/-- A table of numbered records (Section 3, R1, R102, R123): the entries that differ from the record's value after
power-on reset, in strictly rising order of their numbers. An entry that is not listed holds that value. -/
abbrev Table (α : Type) := List (Nat × α)

/-- The roles of an acceptance entry (R1). -/
inductive Role where
  | primary
  | aux
  | check
  deriving DecidableEq, Repr

/-- One entry of the acceptance table (R1). The two bytes are the pattern and its mask. -/
structure AcceptEntry where
  enable  : Bool
  tag     : Byte
  mask    : Byte
  channel : ChanId
  role    : Role
  deriving DecidableEq, Repr

/-- The codes of a step record's op (R38). -/
inductive StepOp where
  | invalid
  | rest
  | cc
  | cp
  | cccv
  | profile
  | loop
  | endloop
  | call
  | ret
  | endProgram
  deriving DecidableEq, Repr

/-- What a terminator watches (R40). -/
inductive TermKind where
  | none
  | vAbove
  | vBelow
  | iAbsBelow
  | time
  | chargeAbs
  | energyAbs
  | tempAbove
  | dvDrop
  deriving DecidableEq, Repr

/-- What a terminator does when it fires (R40, R74, R75). -/
inductive TermAction where
  | next
  | goto
  | endProgram
  | hold
  | brk
  deriving DecidableEq, Repr

/-- One terminator slot of a step record (R40). -/
structure Terminator where
  kind      : TermKind
  action    : TermAction
  target    : Nat
  threshold : Int
  deriving DecidableEq, Repr

/-- One record of the step table (R38). -/
structure StepRecord where
  op     : StepOp
  report : Bool
  cycle  : Bool
  a      : Int
  b      : Nat
  g      : Nat
  guard  : Nat
  slot1  : Terminator
  slot2  : Terminator
  slot3  : Terminator
  deriving DecidableEq, Repr

/-- One program descriptor (R44). -/
structure ProgramDesc where
  valid          : Bool
  base           : Nat
  limit          : Nat
  ichgMax        : Nat
  idisMax        : Nat
  allowCharge    : Bool
  allowDischarge : Bool
  deriving DecidableEq, Repr

/-- One profile segment (R49). -/
structure Segment where
  current : Int
  hold    : Nat
  deriving DecidableEq, Repr

/-- What follows a profile's last segment (R50). -/
inductive Repeat where
  | once
  | wrap
  deriving DecidableEq, Repr

/-- One profile descriptor (R50). -/
structure ProfileDesc where
  valid : Bool
  first : Nat
  count : Nat
  rep   : Repeat
  deriving DecidableEq, Repr

/-- One limit set (R102). -/
structure LimitSet where
  valid     : Bool
  tRequired : Bool
  vHardMin  : Nat
  vHardMax  : Nat
  iHardMax  : Nat
  tHardMin  : Int
  tHardMax  : Int
  vSoftMin  : Nat
  vSoftMax  : Nat
  tSoftMax  : Int
  tolerance : Nat
  deriving DecidableEq, Repr

/-- Recovery policies (R123). -/
inductive Policy where
  | auto
  | holdAfterRecovery
  | controller
  | holdAtTrip
  deriving DecidableEq, Repr

/-- Fault record modes (R120, R123). -/
inductive FaultMode where
  | first
  | accumulate
  deriving DecidableEq, Repr

/-- One record of the configuration table (R123). -/
structure ConfigRec where
  configured  : Bool
  stage       : Nat
  period      : Nat
  gapLimit    : Nat
  silenceMult : Nat
  limitSet    : Nat
  policy      : Policy
  mode        : FaultMode
  shadow      : Bool
  stateReport : Bool
  deriving DecidableEq, Repr

/-! ## A channel's contexts -/

/-- The values of one PRIMARY sample (R6). -/
structure Sample where
  v : Nat
  i : Int
  t : Option Int
  deriving DecidableEq, Repr

/-- A channel's source tracking record (R6). `reference` and `lastArrival` are none together or present together. A
timer holds its expiry tick while it runs and none while it is stopped. -/
structure Tracking where
  reference   : Option Byte
  lastArrival : Option Tick
  lastPrimary : Option Sample
  stuckCount  : Nat
  stuckLatch  : Bool
  silence     : Option Tick
  aux         : Option (Int × Tick)
  auxFresh    : Bool
  auxTimer    : Option Tick
  duplicate   : Nat
  stale       : Nat
  missed      : Nat
  gapClamp    : Nat
  cadence     : Nat
  deriving DecidableEq, Repr

/-- A channel's accumulators, residue and sticky flags (R23, R24, R27). -/
structure Accounts where
  qs      : Int
  es      : Int
  ts      : Nat
  qcIn    : Nat
  qcOut   : Nat
  ecIn    : Nat
  ecOut   : Nat
  tc      : Nat
  qlIn    : Nat
  qlOut   : Nat
  elIn    : Nat
  elOut   : Nat
  residue : Int
  qSat    : Bool
  eSat    : Bool
  tSat    : Bool
  deriving DecidableEq, Repr

/-- One delivery (R20). The channel it is for is the one that holds it. -/
structure Delivery where
  tick      : Tick
  v         : Nat
  i         : Int
  t         : Option Int
  span      : Nat
  gap       : Bool
  cadence   : Bool
  overrange : Bool
  stuck     : Bool
  aux       : Option Int
  deriving DecidableEq, Repr

/-- A channel's copy of the descriptor it runs (R47). -/
structure DescCache where
  base           : Nat
  limit          : Nat
  ichgMax        : Nat
  idisMax        : Nat
  allowCharge    : Bool
  allowDischarge : Bool
  deriving DecidableEq, Repr

/-- A frame of the sequence stack (R60). -/
inductive StackFrame where
  | loopFrame (start finish remaining : Nat) (cycle : Bool)
  | callFrame (selector index : Nat)
  deriving DecidableEq, Repr

/-- The CCCV phase (R57, R89). -/
inductive Phase where
  | cc
  | cv
  deriving DecidableEq, Repr

/-- What set hold-pending (R57). -/
inductive HoldKind where
  | command
  | program
  deriving DecidableEq, Repr

/-- The resume points (R57, R84). -/
inductive ResumePoint where
  | none
  | step
  | transition
  | fault
  deriving DecidableEq, Repr

/-- A channel's sequencing context (R57). The stack's first element is its newest frame. -/
structure Sequencing where
  selector       : Nat
  index          : Nat
  cache          : Option DescCache
  stepCopy       : Option StepRecord
  stack          : List StackFrame
  stackOverflow  : Bool
  stackUnderflow : Bool
  peak           : Option Nat
  ordinal        : Nat
  segStart       : Nat
  phase          : Phase
  inFlight       : Bool
  chain          : Nat
  holdPending    : Option HoldKind
  grace          : Bool
  resume         : ResumePoint
  pendingEval    : Option Delivery
  cycleCount     : Nat
  lostEval       : Nat
  deriving DecidableEq, Repr

/-- The commands of a SETPOINT frame (R92, R153). -/
inductive SpCommand where
  | run
  | zero
  | openPath
  deriving DecidableEq, Repr

/-- A setpoint frame in a slot (R92). `final` marks the final ZERO of an engine reset (R101). -/
structure SpFrame where
  stage   : Nat
  command : SpCommand
  current : Int
  rep     : Bool
  final   : Bool
  deriving DecidableEq, Repr

/-- The last transmitted frame of a slot (R94). -/
structure LastTx where
  stage   : Nat
  command : SpCommand
  current : Int
  deriving DecidableEq, Repr

/-- A channel's setpoint context (R85). `since` is the pending-since order: the number of the offer that last took the
slot from no pending frame to a pending frame. -/
structure Setpoint where
  regulator  : Int
  pending    : Option SpFrame
  since      : Option Nat
  inTx       : Option (SpFrame × Byte)
  lastTx     : Option LastTx
  nextSeq    : Byte
  refresh    : Option Tick
  superseded : Nat
  repeats    : Nat
  deriving DecidableEq, Repr

/-- Confinement levels (R105, R110). -/
inductive Level where
  | normal
  | warning
  | derated
  deriving DecidableEq, Repr

/-- Fault causes (R119). -/
inductive Cause where
  | stuck
  | vHard
  | iHard
  | tHard
  | tempMissing
  | silence
  | estop
  | score
  | bound
  | stepInvalid
  | descriptorInvalid
  | stackOverflow
  | stackUnderflow
  | nesting
  | chain
  deriving DecidableEq, Repr

/-- A channel's fault record (R119). The cause set is listed in the order of the cause codes. -/
structure FaultRecord where
  causes   : List Cause
  first    : Option Cause
  firstPos : Option (Nat × Nat)
  firstAt  : Option Tick
  firstVI  : Option (Nat × Int)
  firstT   : Option Int
  count    : Nat
  deriving DecidableEq, Repr

/-- A channel's supervision context (R105). -/
structure Supervision where
  score    : Nat
  level    : Level
  recovery : Nat
  hardMark : Bool
  fault    : FaultRecord
  deriving DecidableEq, Repr

/-- The five channel states (R126). -/
inductive ChState where
  | off
  | running
  | held
  | complete
  | isolated
  deriving DecidableEq, Repr

/-- One channel: its state and its five contexts. -/
structure Channel where
  state : ChState
  track : Tracking
  acct  : Accounts
  seq   : Sequencing
  sp    : Setpoint
  sup   : Supervision
  deriving DecidableEq, Repr

/-! ## Report records -/

/-- End causes of a STEP_END record (R77, R173). -/
inductive EndCause where
  | slot1
  | slot2
  | slot3
  | profileEnd
  | command
  deriving DecidableEq, Repr

/-- Actions of a FAULT record (R120, R175). -/
inductive FaultAction where
  | trip
  | recordOnly
  | programFault
  deriving DecidableEq, Repr

/-- Reasons of a STATE record (R176). -/
inductive Reason where
  | command
  | programHold
  | programFault
  | trip
  | recovered
  | endProgram
  | estop
  | level
  deriving DecidableEq, Repr

/-- The body of a STEP_END record (R173). -/
structure StepEndBody where
  selector : Nat
  index    : Nat
  cause    : EndCause
  clamped  : Bool
  qSat     : Bool
  eSat     : Bool
  tSat     : Bool
  time     : Nat
  charge   : Int
  energy   : Int
  v        : Nat
  i        : Int
  t        : Option Int
  deriving DecidableEq, Repr

/-- The body of a CYCLE_END record (R174). -/
structure CycleEndBody where
  clamped    : Bool
  cycle      : Nat
  chargeIn   : Nat
  chargeOut  : Nat
  energyIn   : Nat
  energyOut  : Nat
  duration   : Nat
  efficiency : Option Nat
  deriving DecidableEq, Repr

/-- The body of a FAULT record (R175). -/
structure FaultBody where
  cause    : Cause
  action   : FaultAction
  selector : Nat
  index    : Nat
  v        : Nat
  i        : Int
  t        : Option Int
  deriving DecidableEq, Repr

/-- The body of a STATE record (R176). -/
structure StateBody where
  old    : ChState
  new    : ChState
  level  : Level
  reason : Reason
  deriving DecidableEq, Repr

/-- The body of a report record by kind (R172). -/
inductive Body where
  | stepEnd (b : StepEndBody)
  | cycleEnd (b : CycleEndBody)
  | fault (b : FaultBody)
  | state (b : StateBody)
  deriving DecidableEq, Repr

/-- One report record (R172). -/
structure Record where
  channel : ChanId
  tick    : Tick
  dropped : Option Nat
  body    : Body
  deriving DecidableEq, Repr

/-! ## Management unit, table port, links -/

/-- One request of the request queue (R157): the tag, the request code and the arguments. -/
structure Request where
  tag  : Byte
  code : Byte
  args : List Byte
  deriving DecidableEq, Repr

/-- The status codes of an answer (Section 9.2). -/
inductive Status where
  | ok
  | unknownRequest
  | badLength
  | badArgument
  | wrongState
  | busy
  | inUse
  | conflict
  | locked
  | badConfig
  | estop
  deriving DecidableEq, Repr

/-- One answer of the answer queue (R159). `resets` marks the answer of an accepted RESET_ENGINE, whose transmission
makes the reset take effect (R170). -/
structure Answer where
  tag     : Byte
  code    : Byte
  status  : Status
  results : List Byte
  resets  : Bool
  deriving DecidableEq, Repr

/-- The tables that are reached through the sequencer's table port (R52). -/
inductive PortTable where
  | step
  | program
  | segment
  | profile
  deriving DecidableEq, Repr

/-- A READ_TABLE or WRITE_TABLE in execution that makes its record accesses through the table port (R158): the number
of its next record, how many accesses are left, the bytes of the records still to be written, and the bytes read so
far. -/
structure TableJob where
  table : PortTable
  write : Bool
  index : Nat
  left  : Nat
  data  : List Byte
  out   : List Byte
  deriving DecidableEq, Repr

/-- The two kinds of access of the table port (R63). -/
inductive AccessKind where
  | fetch
  | management
  deriving DecidableEq, Repr

/-- What a fetch access found at its start (R64): the chain limit, an index beyond the limit, or the absolute index of
the record it reads. -/
inductive FetchOutcome where
  | chain
  | bound
  | read (index : Nat)
  deriving DecidableEq, Repr

/-- The table port (R63). `live` tells whether the transition that a fetch belongs to is still in flight (R64). -/
inductive PortState where
  | free
  | fetch (c : ChanId) (outcome : FetchOutcome) (live : Bool)
  | access
  deriving DecidableEq, Repr

/-- The states of a receiver (R140). `countable` tells whether the next 0 in this HUNT period would be counted. -/
inductive RxState where
  | hunt (countable : Bool)
  | armed
  | receiving
  deriving DecidableEq, Repr

/-- What the UP transmitter is sending (R148), and whether it is the answer of an accepted RESET_ENGINE (R170). -/
structure UpTx where
  frame  : Frame
  resets : Bool
  deriving DecidableEq, Repr

/-- What the DN transmitter is sending (R148), and the channel whose setpoint frame it is, none for a relay frame. -/
structure DnTx where
  frame   : Frame
  channel : Option ChanId
  deriving DecidableEq, Repr

/-- The UP arbiter's last-served mark (R151). -/
inductive ServedMark where
  | report
  | relay
  deriving DecidableEq, Repr

/-- The nine link counters (R143, R169). -/
structure LinkCounters where
  upFraming     : Nat
  upCrc         : Nat
  upMalformed   : Nat
  dnFraming     : Nat
  dnCrc         : Nat
  dnMalformed   : Nat
  mgmtDrop      : Nat
  relayDropDown : Nat
  relayDropUp   : Nat
  deriving DecidableEq, Repr

/-- The engine states (R182). -/
inductive EngineState where
  | init
  | ready
  | estop
  deriving DecidableEq, Repr

/-! ## Values after power-on reset -/

/-- An acceptance entry after power-on reset (R1). -/
def AcceptEntry.reset : AcceptEntry := { enable := false, tag := 0, mask := 0, channel := 0, role := .primary }

/-- A terminator slot after power-on reset (R38). -/
def Terminator.reset : Terminator := { kind := .none, action := .next, target := 0, threshold := 0 }

/-- A step record after power-on reset, and a record written with op INVALID (R38, R42). -/
def StepRecord.reset : StepRecord :=
  { op := .invalid, report := false, cycle := false, a := 0, b := 0, g := 0, guard := 0,
    slot1 := Terminator.reset, slot2 := Terminator.reset, slot3 := Terminator.reset }

/-- A program descriptor after power-on reset, and one written with valid 0 (R44, R45). -/
def ProgramDesc.reset : ProgramDesc :=
  { valid := false, base := 0, limit := 0, ichgMax := 0, idisMax := 0, allowCharge := false, allowDischarge := false }

/-- A profile segment after power-on reset (R49). -/
def Segment.reset : Segment := { current := 0, hold := 0 }

/-- A profile descriptor after power-on reset, and one written with valid 0 (R50). -/
def ProfileDesc.reset : ProfileDesc := { valid := false, first := 0, count := 0, rep := .once }

/-- A limit set after power-on reset, and one written with valid 0 (R102, R103). -/
def LimitSet.reset : LimitSet :=
  { valid := false, tRequired := false, vHardMin := 0, vHardMax := 0, iHardMax := 0, tHardMin := 0, tHardMax := 0,
    vSoftMin := 0, vSoftMax := 0, tSoftMax := 0, tolerance := 0 }

/-- A configuration record after power-on reset, and one made unconfigured (R123, R124). -/
def ConfigRec.reset : ConfigRec :=
  { configured := false, stage := 0, period := 0, gapLimit := 0, silenceMult := 0, limitSet := 0, policy := .auto,
    mode := .first, shadow := false, stateReport := false }

/-- A source tracking record after both resets and after CONFIGURE (R6). -/
def Tracking.reset : Tracking :=
  { reference := none, lastArrival := none, lastPrimary := none, stuckCount := 0, stuckLatch := false,
    silence := none, aux := none, auxFresh := false, auxTimer := none,
    duplicate := 0, stale := 0, missed := 0, gapClamp := 0, cadence := 0 }

/-- The accounting state after both resets (R23, R24, R27). -/
def Accounts.reset : Accounts :=
  { qs := 0, es := 0, ts := 0, qcIn := 0, qcOut := 0, ecIn := 0, ecOut := 0, tc := 0,
    qlIn := 0, qlOut := 0, elIn := 0, elOut := 0, residue := 0, qSat := false, eSat := false, tSat := false }

/-- The sequencing context after both resets (R57). -/
def Sequencing.reset : Sequencing :=
  { selector := 0, index := 0, cache := none, stepCopy := none, stack := [], stackOverflow := false,
    stackUnderflow := false, peak := none, ordinal := 0, segStart := 0, phase := .cc, inFlight := false, chain := 0,
    holdPending := none, grace := false, resume := .none, pendingEval := none, cycleCount := 0, lostEval := 0 }

/-- The setpoint context after both resets (R85). -/
def Setpoint.reset : Setpoint :=
  { regulator := 0, pending := none, since := none, inTx := none, lastTx := none, nextSeq := 0, refresh := none,
    superseded := 0, repeats := 0 }

/-- An empty fault record (R119). -/
def FaultRecord.empty : FaultRecord :=
  { causes := [], first := none, firstPos := none, firstAt := none, firstVI := none, firstT := none, count := 0 }

/-- The supervision context after both resets (R105). -/
def Supervision.reset : Supervision :=
  { score := 0, level := .normal, recovery := 0, hardMark := false, fault := FaultRecord.empty }

/-- A channel after both resets (R126). -/
def Channel.reset : Channel :=
  { state := .off, track := Tracking.reset, acct := Accounts.reset, seq := Sequencing.reset, sp := Setpoint.reset,
    sup := Supervision.reset }

/-- The link counters after both resets and after CLEAR_COUNTERS (R143, R169). -/
def LinkCounters.reset : LinkCounters :=
  { upFraming := 0, upCrc := 0, upMalformed := 0, dnFraming := 0, dnCrc := 0, dnMalformed := 0, mgmtDrop := 0,
    relayDropDown := 0, relayDropUp := 0 }

/-! ## The machine -/

/-- The whole state of the engine, with the queue of the commands that are waiting. -/
structure State where
  /-- The model's own: the commands that are waiting, first in, first out. -/
  pending      : List Instr
  /-- Level of the RESET_N line: false while it is held low (R183). -/
  resetN       : Bool
  /-- Level of the ESTOP_N line (R182, R186). -/
  estopN       : Bool
  /-- Level of the MAINT line (R103). -/
  maint        : Bool
  /-- The ADDR straps as sampled at the last release of RESET_N (R139, R144). -/
  addrStrap    : BitVec 4
  /-- The RATE strap as sampled at the last release of RESET_N (R139, R161). -/
  rateStrap    : Bool
  /-- The engine state (R182). -/
  engine       : EngineState
  /-- The table clear of a start-up is in progress (R183; bookkeeping, notes/assumptions/17.md). -/
  clearing     : Bool
  /-- The time base (R184). -/
  timeBase     : Tick
  /-- The UP receiver (R140). -/
  upRx         : RxState
  /-- The DN receiver (R140). -/
  dnRx         : RxState
  /-- What the UP transmitter is sending (R148). -/
  upTx         : Option UpTx
  /-- What the DN transmitter is sending (R148). -/
  dnTx         : Option DnTx
  /-- The U→D relay queue, head first (R147). -/
  relayDown    : List Frame
  /-- The D→U relay queue, head first (R147). -/
  relayUp      : List Frame
  /-- The link counters (R143). -/
  link         : LinkCounters
  /-- The DN arbiter's relay wait count (R150). -/
  relayWait    : Nat
  /-- The UP arbiter's last-served mark (R151). -/
  upServed     : ServedMark
  /-- The acceptance table (R1). -/
  acceptTable  : Table AcceptEntry
  /-- The step table (R38). -/
  stepTable    : Table StepRecord
  /-- The program descriptor table (R44). -/
  programTable : Table ProgramDesc
  /-- The profile segment table (R49). -/
  segmentTable : Table Segment
  /-- The profile descriptor table (R50). -/
  profileTable : Table ProfileDesc
  /-- The limit sets (R102). -/
  limitTable   : Table LimitSet
  /-- The configuration table (R123). -/
  configTable  : Table ConfigRec
  /-- The request queue, head first; the head stays while it is in execution (R157). -/
  requests     : List Request
  /-- The answer queue, head first (R159). -/
  answers      : List Answer
  /-- The table request in execution through the table port, if any (R158). -/
  job          : Option TableJob
  /-- An answered RESET_ENGINE has not yet taken effect (R170). -/
  resetPending : Bool
  /-- The report queue, head first (R177). -/
  reports      : List Record
  /-- The drop count (R178). -/
  dropCount    : Nat
  /-- The step fetch queue, head first (R62). -/
  fetchQueue   : List ChanId
  /-- The table port (R63). -/
  port         : PortState
  /-- The kind of the access that the port started last (R63). -/
  portLast     : AccessKind
  /-- The number of the next offer that makes a slot pending (R92); see `Setpoint.since`. The model's own
  (notes/assumptions/15.md). -/
  nextSince    : Nat
  /-- How many reads of a PROFILE evaluation a segment write could land before so far: the argument of the free value
  `Config.writesLanding` at the next one. The model's own (notes/assumptions/13.md). -/
  readRaces    : Nat
  /-- The 32 channels. -/
  channels     : Vector Channel 32
  deriving DecidableEq, Repr

/-- No command of this block ends in a fault: whatever a command meets, the manual gives the outcome as a state. -/
inductive Fault where
  deriving DecidableEq, Repr

/-- The refusals. -/
inductive Refusal where
  /-- Raised by an arm of exec that has no meaning yet (safe: the model stops where the engine goes on). No arm of
  this model answers it. -/
  | notModelled (mnemonic : String)
  deriving DecidableEq, Repr

/-- The engine right after a release of RESET_N (R183): INIT with the table clear in progress, every channel OFF with
its contexts at their reset values, every queue empty, every counter 0, both arbiters and the table port at their reset
marks (R63, R150, R151). The levels of the lines are a DESIGN CHOICE, notes/assumptions/1.md: ESTOP_N high, MAINT low, ADDR 0
and RATE 0; so is the model's own `readRaces`, 0 (notes/assumptions/13.md). -/
def State.reset : State :=
  { pending := [], resetN := true, estopN := true, maint := false, addrStrap := 0, rateStrap := false,
    engine := .init, clearing := true, timeBase := 0, upRx := .hunt true, dnRx := .hunt true, upTx := none,
    dnTx := none, relayDown := [], relayUp := [], link := LinkCounters.reset, relayWait := 0, upServed := .relay,
    acceptTable := [], stepTable := [], programTable := [], segmentTable := [], profileTable := [], limitTable := [],
    configTable := [], requests := [], answers := [], job := none, resetPending := false, reports := [],
    dropCount := 0, fetchQueue := [], port := .free, portLast := .management, nextSince := 0,
    readRaces := 0, channels := Vector.replicate 32 Channel.reset }

end Sys2Proof.Machine
end

