-- ==== Sys2Proof/Machine/Flags.lean ====
section
/-! DEFINITION. The computations that set a counter, a flag, a kind or a level: saturation (Conventions, R26), the
rounding and clamping of report fields (R35 to R37), the hard and soft kinds (R106, R107), the confinement band (R110)
and the terminator tests (R73). -/

namespace Sys2Proof.Machine

open Sys2Proof

/-! ## Saturation -/

/-- A saturating sum of naturals (Conventions, Saturating and wrapping). -/
def satAdd (top a b : Nat) : Nat := min top (a + b)

/-- A 16-bit saturating counter increased by one. -/
def bump (n : Nat) : Nat := satAdd Config.counterMax n 1

/-- A signed 48-bit accumulator after an addition (R26): the value, held within ±(2^47 - 1). -/
def satSigned (x : Int) : Int := max (-(Config.max47 : Int)) (min (Config.max47 : Int) x)

/-- The addition would carry a signed 48-bit accumulator beyond a limit (R26). -/
def overSigned (x : Int) : Bool := decide (x > (Config.max47 : Int)) || decide (x < -(Config.max47 : Int))

/-! ## Conversions for reports -/

/-- A total divided by 3600 and rounded half away from zero (R35). -/
def toHours (x : Int) : Int := x.sign * (((x.natAbs + 1800) / 3600 : Nat) : Int)

/-- The ends of a signed 32-bit report field, ±(2^31 - 1) (R36). -/
def clampS32 (x : Int) : Int := max (-2147483647) (min 2147483647 x)

/-- The end of an unsigned 32-bit report field (R36). -/
def clampU32 (x : Nat) : Nat := min Config.max32 x

/-- An unsigned total divided by 3600 and rounded half away from zero (R35). -/
def toHoursNat (x : Nat) : Nat := (x + 1800) / 3600

/-- The uncapped efficiency of a cycle in permyriad, absent when no charge went in (R37). -/
def efficiency (chargeIn chargeOut : Nat) : Option Nat :=
  if chargeIn = 0 then none else some (10000 * chargeOut / chargeIn)

/-! ## Kinds of a delivery -/

/-- The code of a fault cause (Section 9.2). -/
def Cause.code : Cause → Nat
  | .stuck => 1
  | .vHard => 2
  | .iHard => 3
  | .tHard => 4
  | .tempMissing => 5
  | .silence => 6
  | .estop => 7
  | .score => 8
  | .bound => 9
  | .stepInvalid => 10
  | .descriptorInvalid => 11
  | .stackOverflow => 12
  | .stackUnderflow => 13
  | .nesting => 14
  | .chain => 15

/-- Every fault cause, in the order of the codes (Section 9.2). -/
def allCauses : List Cause :=
  [.stuck, .vHard, .iHard, .tHard, .tempMissing, .silence, .estop, .score, .bound, .stepInvalid, .descriptorInvalid,
   .stackOverflow, .stackUnderflow, .nesting, .chain]

/-- The cause set that holds the causes of both lists, each once, in code order (R119, R120; the order is a DESIGN CHOICE,
notes/assumptions/21.md). -/
def causeUnion (a b : List Cause) : List Cause := allCauses.filter (fun c => a.contains c || b.contains c)

/-- The usable temperatures of a delivery: its primary T and the fresh AUX temperature it carries (R106). -/
def usableTemps (d : Delivery) : List Int := d.t.toList ++ d.aux.toList

/-- A temperature lies outside the hard bounds (R106). -/
def tempOutside (l : LimitSet) (t : Int) : Bool := decide (t < l.tHardMin) || decide (t > l.tHardMax)

/-- The hard kinds of a delivery, in the order in which they lead (R106). -/
def hardKinds (l : LimitSet) (d : Delivery) : List Cause :=
  (if d.stuck then [.stuck] else []) ++
  (if d.v < l.vHardMin ∨ d.v > l.vHardMax then [.vHard] else []) ++
  (if d.i.natAbs > l.iHardMax then [.iHard] else []) ++
  (if (usableTemps d).any (tempOutside l) then [.tHard] else []) ++
  (if l.tRequired ∧ usableTemps d = [] then [.tempMissing] else [])

/-- V_SOFT (R107). -/
def vSoft (l : LimitSet) (d : Delivery) : Bool := decide (d.v < l.vSoftMin) || decide (d.v > l.vSoftMax)

/-- T_SOFT (R107). -/
def tSoft (l : LimitSet) (d : Delivery) : Bool := (usableTemps d).any (fun t => decide (t > l.tSoftMax))

/-- How many soft kinds a delivery carries, each counted once (R107). -/
def softCount (l : LimitSet) (d : Delivery) : Nat :=
  d.gap.toNat + d.cadence.toNat + d.overrange.toNat + (vSoft l d).toNat + (tSoft l d).toNat

/-- The temperature that a fault entry made on a delivery records (R119): for T_HARD the one outside the hard bounds,
the primary one when both are; otherwise the primary T. -/
def entryTemp (l : LimitSet) (d : Delivery) (lead : Cause) : Option Int :=
  match lead with
  | .tHard => (usableTemps d).find? (tempOutside l)
  | _ => d.t

/-- The confinement level of a score (R110). -/
def band (score : Nat) : Level :=
  if score ≤ 63 then .normal else if score ≤ 127 then .warning else .derated

/-! ## Terminator tests -/

/-- The temperature that TEMP_ABOVE looks at: the greater of those present (R73). -/
def evalTemp (d : Delivery) : Option Int :=
  match d.t, d.aux with
  | some a, some b => some (max a b)
  | some a, none => some a
  | none, some b => some b
  | none, none => none

/-- A terminator's condition (R73): the delivery, the step totals and the step's peak voltage against the threshold. -/
def satisfied (tm : Terminator) (d : Delivery) (acct : Accounts) (peak : Nat) : Bool :=
  match tm.kind with
  | .none => false
  | .vAbove => decide ((d.v : Int) ≥ tm.threshold)
  | .vBelow => decide ((d.v : Int) ≤ tm.threshold)
  | .iAbsBelow => decide ((d.i.natAbs : Int) ≤ tm.threshold)
  | .time => decide ((acct.ts : Int) ≥ tm.threshold) || acct.ts == Config.max32
  | .chargeAbs => decide ((acct.qs.natAbs : Int) ≥ tm.threshold)
  | .energyAbs => decide ((acct.es.natAbs : Int) ≥ tm.threshold)
  | .tempAbove =>
    match evalTemp d with
    | some t => decide (t ≥ tm.threshold)
    | none => false
  | .dvDrop => decide ((peak : Int) - d.v ≥ tm.threshold)

/-- The slot is tested at all: while Ts is below the record's guard, only slots of kind TIME are (R73). -/
def tested (r : StepRecord) (acct : Accounts) (tm : Terminator) : Bool :=
  decide (r.guard ≤ acct.ts) || tm.kind == .time

/-- The first satisfied slot of a step, with its end cause (R73, R74). -/
def firedSlot (r : StepRecord) (d : Delivery) (acct : Accounts) (peak : Nat) : Option (EndCause × Terminator) :=
  if tested r acct r.slot1 && satisfied r.slot1 d acct peak then some (.slot1, r.slot1)
  else if tested r acct r.slot2 && satisfied r.slot2 d acct peak then some (.slot2, r.slot2)
  else if tested r acct r.slot3 && satisfied r.slot3 d acct peak then some (.slot3, r.slot3)
  else none

end Sys2Proof.Machine
end

