-- ==== Sys2Proof/Machine/Operands.lean ====
section
/-! DEFINITION. Every byte layout of the links (Section 8.8, R152 to R156, R160 to R169, R172 to R176): reading fields
out of a payload, the record forms of the tables with their write checks (R2, R43, R45, R49, R50, R103, R124, R164), the
codes, and building the frames the engine sends, with their CRC (R142). -/

namespace Sys2Proof.Machine

open Sys2Proof

/-! ## Fields, most significant byte first -/

/-- The byte at a position of a payload. -/
def u8At (l : List Byte) (i : Nat) : Nat := (l.getD i 0).toNat

/-- A u16 field. -/
def u16At (l : List Byte) (i : Nat) : Nat := u8At l i * 256 + u8At l (i + 1)

/-- A u32 field. -/
def u32At (l : List Byte) (i : Nat) : Nat := u16At l i * 65536 + u16At l (i + 2)

/-- An s16 field, two's complement. -/
def s16At (l : List Byte) (i : Nat) : Int := (BitVec.ofNat 16 (u16At l i)).toInt

/-- An s32 field, two's complement. -/
def s32At (l : List Byte) (i : Nat) : Int := (BitVec.ofNat 32 (u32At l i)).toInt

/-- The low `n` bytes of a natural, most significant first. -/
def natBytes : Nat → Nat → List Byte
  | 0, _ => []
  | n + 1, x => BitVec.ofNat 8 (x / 256 ^ n) :: natBytes n x

/-- An integer as `n` bytes, two's complement, most significant first. -/
def intBytes (n : Nat) (x : Int) : List Byte := natBytes n (x % (256 ^ n : Nat)).toNat

/-- A flag as a byte, 0 or 1. -/
def boolByte (b : Bool) : List Byte := [if b then 1 else 0]

/-- Flags as a number, the first at bit 0. -/
def bitsNat : List Bool → Nat
  | [] => 0
  | b :: t => b.toNat + 2 * bitsNat t

/-- A field that must be 0 or 1 (R164). -/
def readBool (n : Nat) : Option Bool :=
  match n with
  | 0 => some false
  | 1 => some true
  | _ => none

/-! ## Codes (Section 8.8 and 9.2) -/

/-- Op codes of a step record. -/
def StepOp.code : StepOp → Nat
  | .invalid => 0x00
  | .rest => 0x01
  | .cc => 0x02
  | .cp => 0x03
  | .cccv => 0x04
  | .profile => 0x05
  | .loop => 0x08
  | .endloop => 0x09
  | .call => 0x0A
  | .ret => 0x0B
  | .endProgram => 0x0C

/-- The op of a code; none for a code that the table does not list (R156). -/
def StepOp.ofCode (n : Nat) : Option StepOp :=
  match n with
  | 0x00 => some .invalid
  | 0x01 => some .rest
  | 0x02 => some .cc
  | 0x03 => some .cp
  | 0x04 => some .cccv
  | 0x05 => some .profile
  | 0x08 => some .loop
  | 0x09 => some .endloop
  | 0x0A => some .call
  | 0x0B => some .ret
  | 0x0C => some .endProgram
  | _ => none

/-- Terminator kind codes. -/
def TermKind.code : TermKind → Nat
  | .none => 0
  | .vAbove => 1
  | .vBelow => 2
  | .iAbsBelow => 3
  | .time => 4
  | .chargeAbs => 5
  | .energyAbs => 6
  | .tempAbove => 7
  | .dvDrop => 8

/-- The terminator kind of a code; none for 9 to 15 (R156). -/
def TermKind.ofCode (n : Nat) : Option TermKind :=
  match n with
  | 0 => some .none
  | 1 => some .vAbove
  | 2 => some .vBelow
  | 3 => some .iAbsBelow
  | 4 => some .time
  | 5 => some .chargeAbs
  | 6 => some .energyAbs
  | 7 => some .tempAbove
  | 8 => some .dvDrop
  | _ => Option.none

/-- Terminator action codes. -/
def TermAction.code : TermAction → Nat
  | .next => 0
  | .goto => 1
  | .endProgram => 2
  | .hold => 3
  | .brk => 4

/-- The terminator action of a code; none for 5 to 15 (R156). -/
def TermAction.ofCode (n : Nat) : Option TermAction :=
  match n with
  | 0 => some .next
  | 1 => some .goto
  | 2 => some .endProgram
  | 3 => some .hold
  | 4 => some .brk
  | _ => none

/-- Role codes. -/
def Role.code : Role → Nat
  | .primary => 0
  | .aux => 1
  | .check => 2

/-- The role of a code. -/
def Role.ofCode (n : Nat) : Option Role :=
  match n with
  | 0 => some .primary
  | 1 => some .aux
  | 2 => some .check
  | _ => none

/-- Recovery policy codes. -/
def Policy.code : Policy → Nat
  | .auto => 0
  | .holdAfterRecovery => 1
  | .controller => 2
  | .holdAtTrip => 3

/-- The recovery policy of a code. -/
def Policy.ofCode (n : Nat) : Option Policy :=
  match n with
  | 0 => some .auto
  | 1 => some .holdAfterRecovery
  | 2 => some .controller
  | 3 => some .holdAtTrip
  | _ => none

/-- Fault record mode codes. -/
def FaultMode.code : FaultMode → Nat
  | .first => 0
  | .accumulate => 1

/-- The fault record mode of a code. -/
def FaultMode.ofCode (n : Nat) : Option FaultMode :=
  match n with
  | 0 => some .first
  | 1 => some .accumulate
  | _ => none

/-- Profile repeat codes. -/
def Repeat.code : Repeat → Nat
  | .once => 0
  | .wrap => 1

/-- The profile repeat of a code. -/
def Repeat.ofCode (n : Nat) : Option Repeat :=
  match n with
  | 0 => some .once
  | 1 => some .wrap
  | _ => none

/-- Channel state codes. -/
def ChState.code : ChState → Nat
  | .off => 0
  | .running => 1
  | .held => 2
  | .complete => 3
  | .isolated => 4

/-- Confinement level codes. -/
def Level.code : Level → Nat
  | .normal => 0
  | .warning => 1
  | .derated => 2

/-- Engine state codes; INIT has none, because no request is executed in INIT (R182), and reads as 0 here. -/
def EngineState.code : EngineState → Nat
  | .init => 0
  | .ready => 1
  | .estop => 2

/-- Status codes. -/
def Status.code : Status → Nat
  | .ok => 0x00
  | .unknownRequest => 0x01
  | .badLength => 0x02
  | .badArgument => 0x03
  | .wrongState => 0x04
  | .busy => 0x05
  | .inUse => 0x06
  | .conflict => 0x07
  | .locked => 0x08
  | .badConfig => 0x09
  | .estop => 0x0A

/-- End cause codes of a STEP_END record (R173). -/
def EndCause.code : EndCause → Nat
  | .slot1 => 1
  | .slot2 => 2
  | .slot3 => 3
  | .profileEnd => 4
  | .command => 5

/-- Action codes of a FAULT record (R175). -/
def FaultAction.code : FaultAction → Nat
  | .trip => 1
  | .recordOnly => 2
  | .programFault => 3

/-- Reason codes of a STATE record (R176). -/
def Reason.code : Reason → Nat
  | .command => 1
  | .programHold => 2
  | .programFault => 3
  | .trip => 4
  | .recovered => 5
  | .endProgram => 6
  | .estop => 7
  | .level => 8

/-- Command codes of a SETPOINT frame (R153). -/
def SpCommand.code : SpCommand → Nat
  | .run => 1
  | .zero => 2
  | .openPath => 3

/-- Hold-pending as READ_CHANNEL returns it (R166). -/
def holdPendingCode : Option HoldKind → Nat
  | none => 0
  | some .command => 1
  | some .program => 2

/-- The resume point as READ_CHANNEL returns it (R166). -/
def ResumePoint.code : ResumePoint → Nat
  | .none => 0
  | .step => 1
  | .transition => 2
  | .fault => 3

/-- The CCCV phase as READ_CHANNEL returns it (R166). -/
def Phase.code : Phase → Nat
  | .cc => 0
  | .cv => 1

/-! ## The step record (R156) -/

/-- The range of a terminator's threshold by its kind (R40). -/
def thresholdInRange (k : TermKind) (t : Int) : Bool :=
  match k with
  | .none => t == 0
  | .vAbove | .vBelow | .dvDrop => decide (0 ≤ t) && decide (t ≤ 65535)
  | .iAbsBelow => decide (0 ≤ t) && decide (t ≤ 32768)
  | .time | .chargeAbs | .energyAbs => decide (0 ≤ t) && decide (t ≤ 4294967295)
  | .tempAbove => decide (-32767 ≤ t) && decide (t ≤ 32767)

/-- A terminator slot read from 7 bytes, with its checks (R43, R156): kind and action are defined codes, the target is in
0..1023, and the threshold, signed for TEMP_ABOVE only, is in the range of the kind. -/
def readTerminator (l : List Byte) (i : Nat) : Option Terminator :=
  match TermKind.ofCode (u8At l i / 16), TermAction.ofCode (u8At l i % 16) with
  | some k, some a =>
    let target := u16At l (i + 1)
    let threshold : Int := match k with
      | .tempAbove => s32At l (i + 3)
      | _ => (u32At l (i + 3) : Int)
    if target ≤ 1023 ∧ thresholdInRange k threshold then
      some { kind := k, action := a, target := target, threshold := threshold }
    else none
  | _, _ => none

/-- The ranges of the operands that an op uses (R39). -/
def operandsInRange (op : StepOp) (a : Int) (b g : Nat) : Bool :=
  match op with
  | .cc => decide (-32768 ≤ a) && decide (a ≤ 32767)
  | .cp => decide (-2000000 ≤ a) && decide (a ≤ 2000000)
  | .cccv => decide (1 ≤ a) && decide (a ≤ 32767) && decide (1 ≤ b) && decide (1 ≤ g)
  | .profile => decide (b ≤ 31)
  | .loop => decide (0 ≤ a) && decide (a ≤ 65535) && decide (b ≤ 1023)
  | .call => decide (b ≤ 63)
  | .invalid | .rest | .endloop | .ret | .endProgram => true

/-- A step record read from 32 bytes with the write checks of R43; none when a check fails. A record with op INVALID
passes whatever else it holds, and is stored with every other field 0 (R42). -/
def readStep (l : List Byte) : Option StepRecord :=
  match StepOp.ofCode (u8At l 0) with
  | none => none
  | some .invalid => some StepRecord.reset
  | some op =>
    let a := s32At l 2
    let b := u16At l 6
    let g := u8At l 8
    if u8At l 1 ≤ 3 ∧ operandsInRange op a b g then
      match readTerminator l 11, readTerminator l 18, readTerminator l 25 with
      | some t1, some t2, some t3 =>
        some { op := op, report := u8At l 1 % 2 == 1, cycle := u8At l 1 / 2 == 1, a := a, b := b, g := g,
               guard := u16At l 9, slot1 := t1, slot2 := t2, slot3 := t3 }
      | _, _, _ => none
    else none

/-- A terminator slot as its 7 bytes. -/
def terminatorBytes (t : Terminator) : List Byte :=
  natBytes 1 (t.kind.code * 16 + t.action.code) ++ natBytes 2 t.target ++ intBytes 4 t.threshold

/-- A step record as its 32 bytes (R156). -/
def stepBytes (r : StepRecord) : List Byte :=
  natBytes 1 r.op.code ++ natBytes 1 (bitsNat [r.report, r.cycle]) ++ intBytes 4 r.a ++ natBytes 2 r.b ++
  natBytes 1 r.g ++ natBytes 2 r.guard ++ terminatorBytes r.slot1 ++ terminatorBytes r.slot2 ++
  terminatorBytes r.slot3

/-! ## The other table records (R164) -/

/-- A program descriptor read from 12 bytes with the checks of R45. -/
def readProgram (l : List Byte) : Option ProgramDesc :=
  match readBool (u8At l 0) with
  | none => none
  | some false => some ProgramDesc.reset
  | some true =>
    let base := u16At l 2
    let limit := u16At l 4
    if u8At l 1 ≤ 3 ∧ base ≤ 1023 ∧ 1 ≤ limit ∧ limit ≤ 1024 ∧ base + limit ≤ 1024 ∧
        u16At l 6 ≤ 32767 ∧ u16At l 8 ≤ 32767 then
      some { valid := true, base := base, limit := limit, ichgMax := u16At l 6, idisMax := u16At l 8,
             allowCharge := u8At l 1 % 2 == 1, allowDischarge := u8At l 1 / 2 == 1 }
    else none

/-- A program descriptor as its 12 bytes. -/
def programBytes (d : ProgramDesc) : List Byte :=
  boolByte d.valid ++ natBytes 1 (bitsNat [d.allowCharge, d.allowDischarge]) ++ natBytes 2 d.base ++
  natBytes 2 d.limit ++ natBytes 2 d.ichgMax ++ natBytes 2 d.idisMax ++ natBytes 2 0

/-- A profile segment read from 4 bytes with the check of R49. -/
def readSegment (l : List Byte) : Option Segment :=
  if 1 ≤ u16At l 2 then some { current := s16At l 0, hold := u16At l 2 } else none

/-- A profile segment as its 4 bytes. -/
def segmentBytes (g : Segment) : List Byte := intBytes 2 g.current ++ natBytes 2 g.hold

/-- A profile descriptor read from 6 bytes with the checks of R50. -/
def readProfile (l : List Byte) : Option ProfileDesc :=
  match readBool (u8At l 0) with
  | none => none
  | some false => some ProfileDesc.reset
  | some true =>
    let first := u16At l 2
    let count := u16At l 4
    match Repeat.ofCode (u8At l 1) with
    | none => none
    | some rep =>
      if first ≤ 2047 ∧ 1 ≤ count ∧ count ≤ 2048 ∧ first + count ≤ 2048 then
        some { valid := true, first := first, count := count, rep := rep }
      else none

/-- A profile descriptor as its 6 bytes. -/
def profileBytes (d : ProfileDesc) : List Byte :=
  boolByte d.valid ++ natBytes 1 d.rep.code ++ natBytes 2 d.first ++ natBytes 2 d.count

/-- A limit set read from 24 bytes with the range and order checks of R103. -/
def readLimit (l : List Byte) : Option LimitSet :=
  match readBool (u8At l 0) with
  | none => none
  | some false => some LimitSet.reset
  | some true =>
    match readBool (u8At l 1) with
    | none => none
    | some req =>
      let vHardMin := u16At l 2
      let vHardMax := u16At l 4
      let iHardMax := u16At l 6
      let tHardMin := s16At l 8
      let tHardMax := s16At l 10
      let vSoftMin := u16At l 12
      let vSoftMax := u16At l 14
      let tSoftMax := s16At l 16
      if iHardMax ≤ 32768 ∧ -32767 ≤ tHardMin ∧ -32767 ≤ tHardMax ∧ -32767 ≤ tSoftMax ∧
          vHardMin < vHardMax ∧ vSoftMin < vSoftMax ∧ vHardMin ≤ vSoftMin ∧ vSoftMax ≤ vHardMax ∧
          tHardMin < tHardMax ∧ tHardMin < tSoftMax ∧ tSoftMax ≤ tHardMax then
        some { valid := true, tRequired := req, vHardMin := vHardMin, vHardMax := vHardMax, iHardMax := iHardMax,
               tHardMin := tHardMin, tHardMax := tHardMax, vSoftMin := vSoftMin, vSoftMax := vSoftMax,
               tSoftMax := tSoftMax, tolerance := u16At l 18 }
      else none

/-- A limit set as its 24 bytes. -/
def limitBytes (s : LimitSet) : List Byte :=
  boolByte s.valid ++ boolByte s.tRequired ++ natBytes 2 s.vHardMin ++ natBytes 2 s.vHardMax ++
  natBytes 2 s.iHardMax ++ intBytes 2 s.tHardMin ++ intBytes 2 s.tHardMax ++ natBytes 2 s.vSoftMin ++
  natBytes 2 s.vSoftMax ++ intBytes 2 s.tSoftMax ++ natBytes 2 s.tolerance ++ natBytes 4 0

/-- An acceptance entry read from 4 bytes with the checks of R2. -/
def readAccept (l : List Byte) : Option AcceptEntry :=
  match readBool (u8At l 0 % 16), Role.ofCode (u8At l 0 / 16) with
  | some en, some role =>
    if h : u8At l 3 < 32 then
      some { enable := en, tag := l.getD 1 0, mask := l.getD 2 0, channel := ⟨u8At l 3, h⟩, role := role }
    else none
  | _, _ => none

/-- An acceptance entry as its 4 bytes. -/
def acceptBytes (e : AcceptEntry) : List Byte :=
  natBytes 1 (e.role.code * 16 + e.enable.toNat) ++ [e.tag, e.mask] ++ natBytes 1 e.channel.val

/-- A configuration record read from 16 bytes with the range checks of R124; one with configured 0 is stored with every
other field at its power-on value. The validity of the limit set is checked later (R129). -/
def readConfig (l : List Byte) : Option ConfigRec :=
  match readBool (u8At l 0) with
  | none => none
  | some false => some ConfigRec.reset
  | some true =>
    match Policy.ofCode (u8At l 7), FaultMode.ofCode (u8At l 8), readBool (u8At l 9), readBool (u8At l 10) with
    | some policy, some mode, some shadow, some report =>
      let period := u16At l 2
      if u8At l 1 ≤ 63 ∧ 1 ≤ period ∧ period ≤ 10000 ∧ 1 ≤ u8At l 4 ∧ u8At l 4 ≤ 16 ∧
          2 ≤ u8At l 5 ∧ u8At l 5 ≤ 64 ∧ u8At l 6 ≤ 15 then
        some { configured := true, stage := u8At l 1, period := period, gapLimit := u8At l 4,
               silenceMult := u8At l 5, limitSet := u8At l 6, policy := policy, mode := mode, shadow := shadow,
               stateReport := report }
      else none
    | _, _, _, _ => none

/-- A configuration record as its 16 bytes. -/
def configBytes (r : ConfigRec) : List Byte :=
  boolByte r.configured ++ natBytes 1 r.stage ++ natBytes 2 r.period ++ natBytes 1 r.gapLimit ++
  natBytes 1 r.silenceMult ++ natBytes 1 r.limitSet ++ natBytes 1 r.policy.code ++ natBytes 1 r.mode.code ++
  boolByte r.shadow ++ boolByte r.stateReport ++ natBytes 5 0

/-- `count` records of `size` bytes each, every one of which must pass its checks. -/
def readRecords {α : Type} (read : List Byte → Option α) (size : Nat) : Nat → List Byte → Option (List α)
  | 0, _ => some []
  | n + 1, l =>
    match read (l.take size), readRecords read size n (l.drop size) with
    | some r, some rs => some (r :: rs)
    | _, _ => none

/-! ## The SAMPLE payload (R152) -/

/-- The fields of a SAMPLE payload: seq, V, I, T (8000H is absent) and the OVERRANGE flag. -/
structure SampleFields where
  seq       : Byte
  v         : Nat
  i         : Int
  t         : Option Int
  overrange : Bool
  deriving DecidableEq, Repr

/-- Reading a SAMPLE payload (R152). -/
def readSample (l : List Byte) : SampleFields :=
  { seq := l.getD 0 0, v := u16At l 1, i := s16At l 3,
    t := if u16At l 5 = 0x8000 then none else some (s16At l 5),
    overrange := u8At l 7 % 2 == 1 }

/-! ## Frames and their CRC -/

/-- One step of the CRC register with one data bit (R142). -/
def crcBit (r : BitVec 16) (b : Bool) : BitVec 16 :=
  if r.msb != b then (r <<< 1) ^^^ 0x1021#16 else r <<< 1

/-- The bits of a byte, most significant first. -/
def byteBits (b : Byte) : List Bool :=
  [b.getLsbD 7, b.getLsbD 6, b.getLsbD 5, b.getLsbD 4, b.getLsbD 3, b.getLsbD 2, b.getLsbD 1, b.getLsbD 0]

/-- The CRC of bytes in the order sent (R142): polynomial 1021H, initial value FFFFH, nothing reflected or inverted. -/
def crc16 (l : List Byte) : BitVec 16 := (l.flatMap byteBits).foldl crcBit 0xFFFF#16

/-- The CRC of a frame's header and payload (R142). -/
def frameCrc (byte0 addr : Byte) (payload : List Byte) : BitVec 16 :=
  crc16 (byte0 :: addr :: BitVec.ofNat 8 payload.length :: payload)

/-- A frame the engine sends, with the low four bits of byte 0 zero and a fresh CRC (R148). -/
def buildFrame (kind : Nat) (addr : Byte) (payload : List Byte) : Frame :=
  let byte0 : Byte := BitVec.ofNat 8 (kind * 16)
  { byte0 := byte0, addr := addr, payload := payload, crc := frameCrc byte0 addr payload }

/-- The received CRC agrees with the computed one (R142). -/
def crcOk (f : Frame) : Bool := f.crc == frameCrc f.byte0 f.addr f.payload

/-- The SETPOINT frame of a slot's frame in transmission (R153). -/
def setpointFrame (f : SpFrame) (seq : Byte) : Frame :=
  buildFrame 2 (BitVec.ofNat 8 f.stage)
    ([seq] ++ natBytes 1 (f.command.code + (if f.rep then 128 else 0)) ++
      intBytes 2 (match f.command with
        | .run => f.current
        | .zero | .openPath => 0))

/-- The MGMT_ANS frame of an answer (R154, R159). -/
def answerFrame (addr : Byte) (a : Answer) : Frame :=
  buildFrame 9 addr ([a.tag, a.code] ++ natBytes 1 a.status.code ++ a.results)

/-! ## Report payloads (R155, R172 to R176) -/

/-- The kind code of a record's body (R172). -/
def Body.code : Body → Nat
  | .stepEnd _ => 1
  | .cycleEnd _ => 2
  | .fault _ => 3
  | .state _ => 4

/-- An optional s16 field: two bytes when present, none when absent. -/
def optS16 : Option Int → List Byte
  | none => []
  | some t => intBytes 2 t

/-- The body of a record as bytes (R173 to R176). -/
def bodyBytes : Body → List Byte
  | .stepEnd b =>
    natBytes 1 b.selector ++ natBytes 2 b.index ++ natBytes 1 b.cause.code ++
    natBytes 1 (bitsNat [b.clamped, b.qSat, b.eSat, b.tSat, b.t.isSome]) ++ natBytes 4 b.time ++
    intBytes 4 b.charge ++ intBytes 4 b.energy ++ natBytes 2 b.v ++ intBytes 2 b.i ++ optS16 b.t
  | .cycleEnd b =>
    natBytes 1 (bitsNat [b.clamped, b.efficiency.isSome]) ++ natBytes 4 b.cycle ++ natBytes 4 b.chargeIn ++
    natBytes 4 b.chargeOut ++ natBytes 4 b.energyIn ++ natBytes 4 b.energyOut ++ natBytes 4 b.duration ++
    (match b.efficiency with
     | none => []
     | some e => natBytes 2 e)
  | .fault b =>
    natBytes 1 b.cause.code ++ natBytes 1 b.action.code ++ boolByte b.t.isSome ++ natBytes 1 b.selector ++
    natBytes 2 b.index ++ natBytes 2 b.v ++ intBytes 2 b.i ++ optS16 b.t
  | .state b =>
    natBytes 1 b.old.code ++ natBytes 1 b.new.code ++ natBytes 1 b.level.code ++ natBytes 1 b.reason.code

/-- The payload of a REPORT frame (R155): the common part, with the dropped count when the record has one, then the
body. -/
def recordBytes (r : Record) : List Byte :=
  natBytes 1 (r.body.code + (if r.dropped.isSome then 128 else 0)) ++ natBytes 1 r.channel.val ++
  natBytes 4 r.tick.toNat ++
  (match r.dropped with
   | none => []
   | some n => natBytes 2 n) ++
  bodyBytes r.body

/-- The REPORT frame of a record (R155, R179). -/
def reportFrame (addr : Byte) (r : Record) : Frame := buildFrame 10 addr (recordBytes r)

end Sys2Proof.Machine
end

