-- ==== Sys2Proof/Machine/Ops.lean ====
section
/-! DEFINITION. The named operations over the state that every meaning is written with: table reads and writes, access to
a channel, the report queue, the setpoint slot, changes of channel state, fault entries, the lines and the outputs. -/

namespace Sys2Proof.Machine

open Sys2Proof

/-! ## Tables -/

/-- Reading entry `i` of a table whose unlisted entries hold `d`. -/
def Table.read {α : Type} (d : α) : Table α → Nat → α
  | [], _ => d
  | (k, v) :: t, i => if k = i then v else Table.read d t i

/-- Writing entry `i` of a table: the list stays in canonical form, and writing the value `d` removes the entry. -/
def Table.write {α : Type} [DecidableEq α] (d : α) : Table α → Nat → α → Table α
  | [], i, v => if v = d then [] else [(i, v)]
  | (k, w) :: t, i, v =>
    if k = i then (if v = d then t else (i, v) :: t)
    else if i < k then (if v = d then (k, w) :: t else (i, v) :: (k, w) :: t)
    else (k, w) :: Table.write d t i v

/-- Writing consecutive entries from `i` on. -/
def Table.writeAll {α : Type} [DecidableEq α] (d : α) : Table α → Nat → List α → Table α
  | t, _, [] => t
  | t, i, v :: vs => Table.writeAll d (Table.write d t i v) (i + 1) vs

/-- The canonical form: entry numbers strictly rising and below `size`, no entry equal to the unlisted value. -/
def Table.wf {α : Type} [DecidableEq α] (d : α) (size : Nat) : Table α → Bool
  | [] => true
  | (k, v) :: t => decide (k < size) && decide (v ≠ d) && t.all (fun p => decide (k < p.1)) && Table.wf d size t

/-- Step record `i` (R38). -/
def State.stepRec (s : State) (i : Nat) : StepRecord := Table.read StepRecord.reset s.stepTable i
/-- Program descriptor `i` (R44). -/
def State.programDesc (s : State) (i : Nat) : ProgramDesc := Table.read ProgramDesc.reset s.programTable i
/-- Profile segment `i` (R49). -/
def State.segment (s : State) (i : Nat) : Segment := Table.read Segment.reset s.segmentTable i
/-- Profile descriptor `i` (R50). -/
def State.profileDesc (s : State) (i : Nat) : ProfileDesc := Table.read ProfileDesc.reset s.profileTable i
/-- Limit set `i` (R102). -/
def State.limitSet (s : State) (i : Nat) : LimitSet := Table.read LimitSet.reset s.limitTable i
/-- Acceptance entry `i` (R1). -/
def State.acceptEntry (s : State) (i : Nat) : AcceptEntry := Table.read AcceptEntry.reset s.acceptTable i
/-- A channel's configuration record (R123, R125). -/
def State.cfg (s : State) (c : ChanId) : ConfigRec := Table.read ConfigRec.reset s.configTable c.val

/-- The segment's hold as the PROFILE evaluation sees it: a stored 0 counts as 1 (R49). -/
def Segment.effHold (g : Segment) : Nat := max 1 g.hold

/-- The limit set that a channel's configuration names, as it stands now (R104). -/
def State.limits (s : State) (c : ChanId) : LimitSet := s.limitSet (s.cfg c).limitSet

/-- The silence limit and AUX freshness of a channel, M × P ticks (R7, R18). -/
def ConfigRec.silenceTicks (r : ConfigRec) : Nat := r.silenceMult * r.period

/-- The copy of a descriptor that a channel's cache holds (R47). -/
def ProgramDesc.toCache (d : ProgramDesc) : DescCache :=
  { base := d.base, limit := d.limit, ichgMax := d.ichgMax, idisMax := d.idisMax, allowCharge := d.allowCharge,
    allowDischarge := d.allowDischarge }

/-! ## Channels -/

/-- Channel `c`. -/
def State.chan (s : State) (c : ChanId) : Channel := s.channels[c.val]

/-- Replacing channel `c`. -/
def State.setChan (s : State) (c : ChanId) (ch : Channel) : State := { s with channels := s.channels.set c.val ch }

/-- Changing channel `c`. -/
def State.modChan (s : State) (c : ChanId) (f : Channel → Channel) : State := s.setChan c (f (s.chan c))

/-- Changing a channel's source tracking record. -/
def State.modTrack (s : State) (c : ChanId) (f : Tracking → Tracking) : State :=
  s.modChan c (fun ch => { ch with track := f ch.track })

/-- Changing a channel's accounting state. -/
def State.modAcct (s : State) (c : ChanId) (f : Accounts → Accounts) : State :=
  s.modChan c (fun ch => { ch with acct := f ch.acct })

/-- Changing a channel's sequencing context. -/
def State.modSeq (s : State) (c : ChanId) (f : Sequencing → Sequencing) : State :=
  s.modChan c (fun ch => { ch with seq := f ch.seq })

/-- Changing a channel's setpoint context. -/
def State.modSp (s : State) (c : ChanId) (f : Setpoint → Setpoint) : State :=
  s.modChan c (fun ch => { ch with sp := f ch.sp })

/-- Changing a channel's supervision context. -/
def State.modSup (s : State) (c : ChanId) (f : Supervision → Supervision) : State :=
  s.modChan c (fun ch => { ch with sup := f ch.sup })

/-- Every channel number, in increasing order. -/
def allChannels : List ChanId := List.finRange 32

/-- One operation on every channel, in increasing channel number. -/
def State.forChannels (s : State) (f : State → ChanId → State) : State := allChannels.foldl f s

/-! ## Lines, engine address, time -/

/-- RESET_N is low: the engine is held in reset (R183). -/
def State.inReset (s : State) : Bool := !s.resetN

/-- The engine address, F0H plus the ADDR straps (R144). -/
def State.engineAddress (s : State) : Byte := 0xF0#8 + s.addrStrap.setWidth 8

/-- The tick `n` ticks from now, modulo 2^32 (R12, R96, R184). -/
def State.tickIn (s : State) (n : Nat) : Tick := s.timeBase + BitVec.ofNat 32 n

/-- Some channel is ISOLATED. -/
def State.anyIsolated (s : State) : Bool := allChannels.any (fun c => (s.chan c).state == .isolated)

/-- FAULT_N is asserted, that is driven low (R188): in ESTOP, or while a channel is ISOLATED, but never while RESET_N is
low or the engine is in INIT. -/
def State.faultAsserted (s : State) : Bool :=
  s.resetN && s.engine != .init && (s.engine == .estop || s.anyIsolated)

/-! ## The report queue (Section 10.2) -/

/-- The body is one of the measurement records STEP_END and CYCLE_END, which leave the reserve open (R177). -/
def Body.isData : Body → Bool
  | .stepEnd _ | .cycleEnd _ => true
  | .fault _ | .state _ => false

/-- The report queue accepts a body of this kind at this many records (R177). -/
def reportAccepts (b : Body) (n : Nat) : Bool :=
  decide (n < (if b.isData then Config.reportDataMax else Config.reportMax))

/-- A record is produced for a channel and offered to the report queue (R172, R177, R178): accepted, it joins the back
and takes the drop count with it; refused, it is lost and counted. -/
def State.produce (s : State) (c : ChanId) (b : Body) : State :=
  { s with
    reports :=
      if reportAccepts b s.reports.length then
        s.reports ++ [{ channel := c, tick := s.timeBase,
                        dropped := if s.dropCount = 0 then none else some s.dropCount, body := b }]
      else s.reports
    dropCount := if reportAccepts b s.reports.length then 0 else bump s.dropCount }

/-- A STATE record, subject to the channel's STATE report enable (R128, R176). -/
def State.stateRecord (s : State) (c : ChanId) (old : ChState) (r : Reason) : State :=
  if (s.cfg c).stateReport then
    s.produce c (.state { old := old, new := (s.chan c).state, level := (s.chan c).sup.level, reason := r })
  else s

/-- A channel changes state, and its STATE record is produced (R128). -/
def State.changeState (s : State) (c : ChanId) (new : ChState) (r : Reason) : State :=
  (s.modChan c (fun ch => { ch with state := new })).stateRecord c (s.chan c).state r

/-! ## The setpoint slot (Section 5.4) -/

/-- A frame offered to a slot meets its pending frame (R93): it becomes pending where there is none, is discarded against
a pending OPEN, and replaces a pending RUN or ZERO. `now` is the pending-since order of this offer. -/
def Setpoint.offer (sp : Setpoint) (f : SpFrame) (now : Nat) : Setpoint :=
  match sp.pending with
  | none => { sp with pending := some f, since := some now }
  | some p =>
    match p.command with
    | .openPath => sp
    | .run | .zero => { sp with pending := some f, superseded := bump sp.superseded }

/-- A frame is offered to channel `c`'s slot, unless the channel is in shadow mode (R93, R98, R99). Its stage address is
read from the configuration now (R91). -/
def State.offerFrame (s : State) (c : ChanId) (cmd : SpCommand) (current : Int) (rep : Bool) : State :=
  if (s.cfg c).shadow then s
  else
    { s with
      nextSince := s.nextSince + 1
      channels := s.channels.set c.val { s.chan c with
        sp := (s.chan c).sp.offer
          { stage := (s.cfg c).stage, command := cmd, current := current, rep := rep, final := false } s.nextSince } }

/-- ZERO offered to a slot (R99). -/
def State.offerZero (s : State) (c : ChanId) : State := s.offerFrame c .zero 0 false

/-- OPEN offered to a slot (R99). -/
def State.offerOpen (s : State) (c : ChanId) : State := s.offerFrame c .openPath 0 false

/-! ## The fault record (Section 6.7) -/

/-- One fault entry (R119): its causes with the leading one first, and its sample values. -/
structure FaultEntry where
  lead   : Cause
  others : List Cause
  vi     : Option (Nat × Int)
  t      : Option Int
  deriving DecidableEq, Repr

/-- An entry without sample values (R119): a silence event, an emergency stop, a PLAUSIBILITY event, a program fault. -/
def FaultEntry.bare (c : Cause) : FaultEntry := { lead := c, others := [], vi := none, t := none }

/-- The causes of an entry. -/
def FaultEntry.causes (e : FaultEntry) : List Cause := e.lead :: e.others

/-- A fault record after an entry (R119, R120). -/
def FaultRecord.enter (r : FaultRecord) (e : FaultEntry) (mode : FaultMode) (pos : Nat × Nat) (at_ : Tick) :
    FaultRecord :=
  { causes :=
      (match mode with
       | .first => if r.first.isNone then causeUnion r.causes [e.lead] else r.causes
       | .accumulate => causeUnion r.causes e.causes)
    first := if r.first.isNone then some e.lead else r.first
    firstPos := if r.first.isNone then some pos else r.firstPos
    firstAt := if r.first.isNone then some at_ else r.firstAt
    firstVI := if r.first.isNone then e.vi else r.firstVI
    firstT := if r.first.isNone then e.t else r.firstT
    count := bump r.count }

/-- A fault is entered in a channel's fault record, with the channel's position and the present tick (R119). -/
def State.enterFault (s : State) (c : ChanId) (e : FaultEntry) : State :=
  s.modSup c (fun u => { u with
    fault := u.fault.enter e (s.cfg c).mode ((s.chan c).seq.selector, (s.chan c).seq.index) s.timeBase })

/-- The FAULT record of an entry (R120, R175). -/
def State.faultRecord (s : State) (c : ChanId) (e : FaultEntry) (a : FaultAction) : State :=
  s.produce c (.fault
    { cause := e.lead, action := a, selector := (s.chan c).seq.selector, index := (s.chan c).seq.index,
      v := (e.vi.map (·.1)).getD 0, i := (e.vi.map (·.2)).getD 0, t := e.t })

/-! ## The step fetch queue and transitions that end early -/

/-- The channel joins the back of the step fetch queue (R62). -/
def State.joinFetch (s : State) (c : ChanId) : State := { s with fetchQueue := s.fetchQueue ++ [c] }

/-- A fetch access in progress for this channel loses its transition, so its outcome will be discarded (R64). -/
def PortState.abandon (p : PortState) (c : ChanId) : PortState :=
  match p with
  | .fetch d o live => .fetch d o (live && d != c)
  | .free => .free
  | .access => .access

/-- A channel's transition in flight, if any, ends: it leaves the step fetch queue, and a fetch access started for it
will be discarded (R62, R64). -/
def State.leaveFetch (s : State) (c : ChanId) : State :=
  { s with fetchQueue := s.fetchQueue.filter (fun d => d != c), port := s.port.abandon c }

/-- What STOP, a trip and a program fault have in common in the sequencing context (R71, R81, R83): no transition in
flight, hold-pending absent, grace clear, chain count 0, the pending-evaluation slot emptied without counting, and the
resume point given. -/
def Sequencing.cease (q : Sequencing) (rp : ResumePoint) : Sequencing :=
  { q with inFlight := false, holdPending := none, grace := false, chain := 0, pendingEval := none, resume := rp }

/-- The sequencer gives up what the channel was doing at a trip (R83). -/
def State.giveUp (s : State) (c : ChanId) : State :=
  (s.leaveFetch c).modSeq c (fun q => { q.cease .transition with stepCopy := none })

end Sys2Proof.Machine
end

