-- ==== Sys2Proof/Machine/Accounting.lean ====
section
/-! DEFINITION. The accounting unit (Section 2): charge and energy increments, the residue, the three levels of
accumulator, their resets, and the report fields formed from them. -/

namespace Sys2Proof.Machine

open Sys2Proof

/-- The charge increment q = I × k × P in µC (R22). -/
def chargeInc (d : Delivery) (period : Nat) : Int := d.i * (d.span * period : Nat)

/-- The energy increment e = V × I × k × P in nJ (R22). -/
def energyInc (d : Delivery) (period : Nat) : Int := (d.v : Int) * d.i * (d.span * period : Nat)

/-- The whole-millijoule increment of a sum of residue and energy increment, truncated toward zero (R23). -/
def wholeMJ (sum : Int) : Int := sum.tdiv Config.nJperMJ

/-- The step accumulators move (R25, R26). -/
def Accounts.addStep (a : Accounts) (q d : Int) (ticks : Nat) : Accounts :=
  { a with
    qs := satSigned (a.qs + q), qSat := a.qSat || overSigned (a.qs + q)
    es := satSigned (a.es + d), eSat := a.eSat || overSigned (a.es + d)
    ts := satAdd Config.max32 a.ts ticks, tSat := a.tSat || decide (a.ts + ticks > Config.max32) }

/-- The cycle accumulators move (R25, R26). -/
def Accounts.addCycle (a : Accounts) (q d : Int) (ticks : Nat) : Accounts :=
  { a with
    qcIn := satAdd Config.max48 a.qcIn q.toNat, qcOut := satAdd Config.max48 a.qcOut (-q).toNat
    ecIn := satAdd Config.max48 a.ecIn d.toNat, ecOut := satAdd Config.max48 a.ecOut (-d).toNat
    tc := satAdd Config.max32 a.tc ticks }

/-- The lifetime accumulators move (R25, R26). -/
def Accounts.addLife (a : Accounts) (q d : Int) : Accounts :=
  { a with
    qlIn := satAdd Config.max64 a.qlIn q.toNat, qlOut := satAdd Config.max64 a.qlOut (-q).toNat
    elIn := satAdd Config.max48 a.elIn d.toNat, elOut := satAdd Config.max48 a.elOut (-d).toNat }

/-- The residue takes what the whole millijoules leave of the sum (R23). -/
def Accounts.addResidue (a : Accounts) (e : Int) : Accounts :=
  { a with residue := (a.residue + e) - wholeMJ (a.residue + e) * Config.nJperMJ }

/-- A delivery is accounted by the state of its channel (R28). -/
def Accounts.account (a : Accounts) (st : ChState) (d : Delivery) (period : Nat) : Accounts :=
  let q := chargeInc d period
  let e := energyInc d period
  let w := wholeMJ (a.residue + e)
  match st with
  | .off => a
  | .running => (((a.addStep q w (d.span * period)).addCycle q w (d.span * period)).addLife q w).addResidue e
  | .held | .complete | .isolated => (a.addLife q w).addResidue e

/-- The accounting unit acts on a delivery (R28, R29); P is read from the configuration now. -/
def State.accountDelivery (s : State) (c : ChanId) (d : Delivery) : State :=
  s.modAcct c (fun a => a.account (s.chan c).state d (s.cfg c).period)

/-- The step accumulators at the beginning of a transition (R30); the sticky flags are kept. -/
def Accounts.resetStep (a : Accounts) : Accounts := { a with qs := 0, es := 0, ts := 0 }

/-- The cycle accumulators at START and after a CYCLE_END record (R31). -/
def Accounts.resetCycle (a : Accounts) : Accounts := { a with qcIn := 0, qcOut := 0, ecIn := 0, ecOut := 0, tc := 0 }

/-- The three sticky flags cleared (R27). -/
def Accounts.clearFlags (a : Accounts) : Accounts := { a with qSat := false, eSat := false, tSat := false }

/-- What START clears (R32). -/
def Accounts.start (a : Accounts) : Accounts := { (a.resetStep.resetCycle).clearFlags with residue := 0 }

/-- What CLEAR_TOTALS clears (R33). -/
def Accounts.clearTotals (a : Accounts) : Accounts :=
  { a with qlIn := 0, qlOut := 0, elIn := 0, elOut := 0, residue := 0 }

/-- The body of a STEP_END record, built from the step accumulators as they stand (R35, R36, R77, R173). -/
def stepEndBody (q : Sequencing) (a : Accounts) (cause : EndCause) (v : Nat) (i : Int) (t : Option Int) :
    StepEndBody :=
  { selector := q.selector, index := q.index, cause := cause
    clamped := decide (clampS32 (toHours a.qs) ≠ toHours a.qs) || decide (clampS32 (toHours a.es) ≠ toHours a.es)
    qSat := a.qSat, eSat := a.eSat, tSat := a.tSat, time := a.ts
    charge := clampS32 (toHours a.qs), energy := clampS32 (toHours a.es), v := v, i := i, t := t }

/-- The body of a CYCLE_END record, built from the cycle accumulators as they stand (R35 to R37, R174). -/
def cycleEndBody (a : Accounts) (cycle : Nat) : CycleEndBody :=
  { clamped :=
      decide (toHoursNat a.qcIn > Config.max32) || decide (toHoursNat a.qcOut > Config.max32) ||
      decide (toHoursNat a.ecIn > Config.max32) || decide (toHoursNat a.ecOut > Config.max32) ||
      decide ((efficiency a.qcIn a.qcOut).getD 0 > 65535)
    cycle := cycle
    chargeIn := clampU32 (toHoursNat a.qcIn), chargeOut := clampU32 (toHoursNat a.qcOut)
    energyIn := clampU32 (toHoursNat a.ecIn), energyOut := clampU32 (toHoursNat a.ecOut)
    duration := a.tc
    efficiency := (efficiency a.qcIn a.qcOut).map (fun e => min 65535 e) }

end Sys2Proof.Machine
end

