-- ==== Sys2Proof/Machine/SetpointUnit.lean ====
section
/-! DEFINITION. The setpoint unit's computation (Sections 5.2 and 5.3): the regulator value of each drive op, the
authority clamp, derating, and the RUN frame of an evaluation. -/

namespace Sys2Proof.Machine

open Sys2Proof

/-- The computed regulator value of a drive op before the clamp (R87 to R89). `prev` is the regulator value kept so far
and `segCurrent` the current of the segment under the profile cursor. -/
def computeR (r : StepRecord) (v : Nat) (prev segCurrent : Int) : Int :=
  match r.op with
  | .cc => r.a
  | .cp => (1000 * r.a).tdiv (max v Config.cpFloor : Nat)
  | .cccv => max 0 (min r.a (prev + Int.fdiv (((r.b : Int) - v) * r.g) 16))
  | .profile => segCurrent
  | .rest | .invalid | .loop | .endloop | .call | .ret | .endProgram => 0

/-- The authority clamp of a descriptor cache (R90). -/
def DescCache.clamp (k : DescCache) (r : Int) : Int := max (-(k.idisMax : Int)) (min (k.ichgMax : Int) r)

/-- The emitted current: half of the clamped regulator value, truncated toward zero, while DERATED (R91). -/
def emitted (l : Level) (r : Int) : Int :=
  match l with
  | .derated => r.tdiv 2
  | .normal | .warning => r

/-- The regulator value at the beginning of a step (R86). -/
def startR (r : StepRecord) : Int :=
  match r.op with
  | .cccv => r.a
  | .rest | .cc | .cp | .profile | .invalid | .loop | .endloop | .call | .ret | .endProgram => 0

/-- The clamped regulator value of an evaluation (R86 to R90). -/
def evalR (ch : Channel) (r : StepRecord) (v : Nat) (segCurrent : Int) : Int :=
  match ch.seq.cache with
  | some k => k.clamp (computeR r v ch.sp.regulator segCurrent)
  | none => computeR r v ch.sp.regulator segCurrent

/-- The CCCV phase after an evaluation (R89); other steps leave it as it stands. -/
def evalPhase (r : StepRecord) (newR : Int) (old : Phase) : Phase :=
  match r.op with
  | .cccv => if newR = r.a then .cc else .cv
  | .rest | .cc | .cp | .profile | .invalid | .loop | .endloop | .call | .ret | .endProgram => old

/-- The setpoint stage of an evaluation (R86): the clamped regulator value is kept, the CCCV phase set, and a RUN frame
with the emitted current offered. -/
def State.emitRun (s : State) (c : ChanId) (r : StepRecord) (d : Delivery) (segCurrent : Int) : State :=
  let newR := evalR (s.chan c) r d.v segCurrent
  (s.modChan c (fun ch => { ch with
      sp := { ch.sp with regulator := newR }
      seq := { ch.seq with phase := evalPhase r newR ch.seq.phase } })).offerFrame c .run
    (emitted (s.chan c).sup.level newR) false

end Sys2Proof.Machine
end

