-- ==== Sys2Proof/Machine/Tables.lean ====
section
/-! DEFINITION. READ_TABLE and WRITE_TABLE (Sections 3.2 to 3.5, 9.3): placing an answer, the access that is due at the table
port, the tables that are reached through the table port one record per access, and the tables that are read or written at one
event. -/

namespace Sys2Proof.Machine

open Sys2Proof

/-! ## Answers -/

/-- The answer of the request in execution is placed, and the request leaves the request queue (R157 to R159). -/
def State.placeAnswer (s : State) (r : Request) (st : Status) (results : List Byte) : State :=
  { s with
    requests := s.requests.tail
    job := none
    answers := s.answers ++ [{ tag := r.tag, code := r.code, status := st, results := results, resets := false }] }

/-- A request refused with a status: an answer without results (R160). -/
def State.refuse (s : State) (r : Request) (st : Status) : State := s.placeAnswer r st []

/-! ## The header of a table request -/

/-- First index of a READ_TABLE or WRITE_TABLE (Section 8.8). -/
def Request.first (r : Request) : Nat := u16At r.args 1
/-- Count of a READ_TABLE or WRITE_TABLE (Section 8.8). -/
def Request.count (r : Request) : Nat := u8At r.args 3
/-- The record bytes of a WRITE_TABLE (Section 8.8). -/
def Request.records (r : Request) : List Byte := r.args.drop 4

/-- The length check of WRITE_TABLE (R163, order 4). -/
def Request.writeLengthOk (r : Request) (recSize : Nat) : Bool :=
  decide (4 ≤ r.args.length) && decide (r.args.length = 4 + r.count * recSize)

/-- Count and index of a WRITE_TABLE against a table's size (R2, R43, R45, R49, R50, R103). -/
def Request.writeRangeOk (r : Request) (size : Nat) : Bool := decide (1 ≤ r.count) && decide (r.first + r.count ≤ size)

/-- Count and index of a READ_TABLE (R162). -/
def Request.readRangeOk (r : Request) (size perRequest : Nat) : Bool :=
  decide (1 ≤ r.count) && decide (r.count ≤ perRequest) && decide (r.first + r.count ≤ size)

/-! ## Tables reached through the table port -/

/-- Number of entries of a port table (R162). -/
def PortTable.size : PortTable → Nat
  | .step => Config.stepSize
  | .program => Config.programSize
  | .segment => Config.segmentSize
  | .profile => Config.profileSize

/-- Bytes of one record of a port table (R162). -/
def PortTable.recSize : PortTable → Nat
  | .step => 32
  | .program => 12
  | .segment => 4
  | .profile => 6

/-- Records of a port table that one request carries (R162). -/
def PortTable.perRequest : PortTable → Nat
  | .step => 3
  | .program => 9
  | .segment => 28
  | .profile => 19

/-- Every record of a write passes the table's own checks (R43, R45, R49, R50). -/
def PortTable.recordsOk (t : PortTable) (n : Nat) (l : List Byte) : Bool :=
  match t with
  | .step => (readRecords readStep 32 n l).isSome
  | .program => (readRecords readProgram 12 n l).isSome
  | .segment => (readRecords readSegment 4 n l).isSome
  | .profile => (readRecords readProfile 6 n l).isSome

/-- A record of a port table as its bytes, as it stands (R55). -/
def State.portBytes (s : State) (t : PortTable) (i : Nat) : List Byte :=
  match t with
  | .step => stepBytes (s.stepRec i)
  | .program => programBytes (s.programDesc i)
  | .segment => segmentBytes (s.segment i)
  | .profile => profileBytes (s.profileDesc i)

/-- One record of a port table is replaced whole (R52). Bytes that fail the record's checks never reach this point,
because the whole request was checked before. -/
def State.portWrite (s : State) (t : PortTable) (i : Nat) (l : List Byte) : State :=
  match t with
  | .step =>
    match readStep l with
    | some r => { s with stepTable := Table.write StepRecord.reset s.stepTable i r }
    | none => s
  | .program =>
    match readProgram l with
    | some r => { s with programTable := Table.write ProgramDesc.reset s.programTable i r }
    | none => s
  | .segment =>
    match readSegment l with
    | some r => { s with segmentTable := Table.write Segment.reset s.segmentTable i r }
    | none => s
  | .profile =>
    match readProfile l with
    | some r => { s with profileTable := Table.write ProfileDesc.reset s.profileTable i r }
    | none => s

/-- The start of a READ_TABLE of a port table (R55, R160, R162): refused, or in execution with its accesses to make. -/
def State.startPortRead (s : State) (t : PortTable) (r : Request) : State :=
  if r.args.length ≠ 4 then s.refuse r .badLength
  else if r.readRangeOk t.size t.perRequest then
    { s with job := some { table := t, write := false, index := r.first, left := r.count, data := [], out := [] } }
  else s.refuse r .badArgument

/-- The start of a WRITE_TABLE of a port table (R43, R45, R49, R50, R163). -/
def State.startPortWrite (s : State) (t : PortTable) (r : Request) : State :=
  if r.writeLengthOk t.recSize then
    if r.writeRangeOk t.size && t.recordsOk r.count r.records then
      { s with job := some { table := t, write := true, index := r.first, left := r.count, data := r.records, out := [] } }
    else s.refuse r .badArgument
  else s.refuse r .badLength

/-- The record work of one completed management access (R52, R55). -/
def State.accessRecord (s : State) (j : TableJob) : State :=
  if j.write then s.portWrite j.table j.index (j.data.take j.table.recSize) else s

/-- The table request after one completed access. -/
def State.jobNext (s : State) (j : TableJob) : TableJob :=
  { j with
    index := j.index + 1
    left := j.left - 1
    data := j.data.drop j.table.recSize
    out := if j.write then j.out else j.out ++ s.portBytes j.table j.index }

/-- The access that the free table port starts next (R63): the only kind that waits, or of two the kind it did not start
last. -/
def State.dueAccess (s : State) : Option AccessKind :=
  if s.resetN && s.port == .free then
    match s.fetchQueue, s.job with
    | [], none => none
    | _ :: _, none => some .fetch
    | [], some _ => some .management
    | _ :: _, some _ =>
      match s.portLast with
      | .management => some .fetch
      | .fetch => some .management
  else none

/-- The table port starts the next management access (R63). -/
def State.startAccess (s : State) : State := { s with port := .access, portLast := .management }

/-- The table port starts the management access that is due, if one is. -/
def State.portNext (s : State) : State :=
  match s.dueAccess with
  | some .management => s.startAccess
  | some .fetch => s
  | none => s

/-- What a completed management access does for the request it belongs to: the record work, and the answer after the last
record. -/
def State.finishAccess (s : State) (j : TableJob) (r : Request) : State :=
  if (s.jobNext j).left = 0 then (s.accessRecord j).placeAnswer r .ok (s.jobNext j).out
  else { s.accessRecord j with job := some (s.jobNext j) }

/-- A management access completes (R52, R53, R55): the record is replaced or read, and after the last one the answer is
placed. -/
def State.completeAccess (s : State) : State :=
  match s.port with
  | .access =>
    match s.job, s.requests with
    | some j, r :: _ => ({ s with port := .free }).finishAccess j r
    | some _, [] => { s with port := .free, job := none }
    | none, _ => { s with port := .free }
  | .free => s
  | .fetch _ _ _ => s

/-! ## Tables read and written at one event -/

/-- READ_TABLE of LIMIT, ACCEPT or CONFIG (R162): an image of the records at this event. -/
def State.readImage (s : State) (r : Request) (size perRequest : Nat) (image : Nat → List Byte) : State :=
  if r.args.length ≠ 4 then s.refuse r .badLength
  else if r.readRangeOk size perRequest then
    s.placeAnswer r .ok ((List.range r.count).flatMap (fun i => image (r.first + i)))
  else s.refuse r .badArgument

/-- A set written with valid 0 is named by a configured channel that is not OFF (R103). -/
def State.limitInUse (s : State) (first : Nat) (sets : List LimitSet) : Bool :=
  allChannels.any (fun c =>
    (s.cfg c).configured && (s.chan c).state != .off &&
      (List.range sets.length).any (fun i =>
        (s.cfg c).limitSet == first + i && !(sets.getD i LimitSet.reset).valid))

/-- WRITE_TABLE of the limit sets (R103, R163). -/
def State.writeLimits (s : State) (r : Request) : State :=
  if s.maint then
    if r.writeLengthOk 24 then
      match (if r.writeRangeOk Config.limitSize then readRecords readLimit 24 r.count r.records else none) with
      | none => s.refuse r .badArgument
      | some sets =>
        if s.limitInUse r.first sets then s.refuse r .inUse
        else ({ s with limitTable := Table.writeAll LimitSet.reset s.limitTable r.first sets }).placeAnswer r .ok []
    else s.refuse r .badLength
  else s.refuse r .locked

/-- An enabled PRIMARY entry (R3). -/
def AcceptEntry.isPrimary (e : AcceptEntry) : Bool := e.enable && e.role == .primary

/-- A changed entry touches an enabled PRIMARY entry of a channel that is not OFF (R3). -/
def State.acceptInUse (s : State) (first : Nat) (entries : List AcceptEntry) : Bool :=
  (List.range entries.length).any (fun i =>
    let old := s.acceptEntry (first + i)
    let new := entries.getD i AcceptEntry.reset
    new != old &&
      ((old.isPrimary && (s.chan old.channel).state != .off) || (new.isPrimary && (s.chan new.channel).state != .off)))

/-- How many enabled PRIMARY entries of an acceptance table name a channel. -/
def primaryCount (t : Table AcceptEntry) (c : ChanId) : Nat :=
  (((List.range Config.acceptSize).map (Table.read AcceptEntry.reset t)).filter
    (fun e => e.isPrimary && e.channel == c)).length

/-- Two enabled PRIMARY entries name one channel (R3). -/
def acceptConflict (t : Table AcceptEntry) : Bool := allChannels.any (fun c => decide (1 < primaryCount t c))

/-- WRITE_TABLE of the acceptance table (R2, R3, R163). -/
def State.writeAccept (s : State) (r : Request) : State :=
  if r.writeLengthOk 4 then
    match (if r.writeRangeOk Config.acceptSize then readRecords readAccept 4 r.count r.records else none) with
    | none => s.refuse r .badArgument
    | some entries =>
      if s.acceptInUse r.first entries then s.refuse r .inUse
      else if acceptConflict (Table.writeAll AcceptEntry.reset s.acceptTable r.first entries) then
        s.refuse r .conflict
      else
        ({ s with acceptTable := Table.writeAll AcceptEntry.reset s.acceptTable r.first entries }).placeAnswer r .ok []
  else s.refuse r .badLength

/-! ## One request of each table row -/

/-- READ_TABLE of STEP. -/
def reqReadTableStep (s : State) (r : Request) : State := s.startPortRead .step r
/-- READ_TABLE of PROGRAM. -/
def reqReadTableProgram (s : State) (r : Request) : State := s.startPortRead .program r
/-- READ_TABLE of PROFILE_SEG. -/
def reqReadTableProfileSeg (s : State) (r : Request) : State := s.startPortRead .segment r
/-- READ_TABLE of PROFILE. -/
def reqReadTableProfile (s : State) (r : Request) : State := s.startPortRead .profile r
/-- READ_TABLE of LIMIT. -/
def reqReadTableLimit (s : State) (r : Request) : State :=
  s.readImage r Config.limitSize 4 (fun i => limitBytes (s.limitSet i))
/-- READ_TABLE of ACCEPT. -/
def reqReadTableAccept (s : State) (r : Request) : State :=
  s.readImage r Config.acceptSize 28 (fun i => acceptBytes (s.acceptEntry i))
/-- READ_TABLE of CONFIG. -/
def reqReadTableConfig (s : State) (r : Request) : State :=
  s.readImage r Config.configSize 7 (fun i => configBytes (Table.read ConfigRec.reset s.configTable i))
/-- READ_TABLE whose table code is not defined, or that is too short to hold one (R160, R162). -/
def reqReadTableUndefinedTable (s : State) (r : Request) : State :=
  if r.args.length ≠ 4 then s.refuse r .badLength else s.refuse r .badArgument
/-- WRITE_TABLE of STEP. -/
def reqWriteTableStep (s : State) (r : Request) : State := s.startPortWrite .step r
/-- WRITE_TABLE of PROGRAM. -/
def reqWriteTableProgram (s : State) (r : Request) : State := s.startPortWrite .program r
/-- WRITE_TABLE of PROFILE_SEG. -/
def reqWriteTableProfileSeg (s : State) (r : Request) : State := s.startPortWrite .segment r
/-- WRITE_TABLE of PROFILE. -/
def reqWriteTableProfile (s : State) (r : Request) : State := s.startPortWrite .profile r
/-- WRITE_TABLE of LIMIT. -/
def reqWriteTableLimit (s : State) (r : Request) : State := s.writeLimits r
/-- WRITE_TABLE of ACCEPT. -/
def reqWriteTableAccept (s : State) (r : Request) : State := s.writeAccept r
/-- WRITE_TABLE of CONFIG is refused (R123, R163). -/
def reqWriteTableConfig (s : State) (r : Request) : State := s.refuse r .badArgument
/-- WRITE_TABLE too short to hold a table code, or whose table code is not defined (R163). -/
def reqWriteTableUndefinedTable (s : State) (r : Request) : State :=
  if r.args = [] then s.refuse r .badLength else s.refuse r .badArgument

end Sys2Proof.Machine
end

