-- ==== Sys2Proof/Machine/Sequencer.lean ====
section
/-! DEFINITION. The sequencer (Section 4): transitions, program faults, control records, the beginning of a step, the
evaluation of a delivery, and the two ends of a fetch access. -/

namespace Sys2Proof.Machine

open Sys2Proof

/-! ## The end of a step and the beginning of a transition -/

/-- A STEP_END record, if a step executes whose copy has REPORT set (R77). -/
def State.stepEnd (s : State) (c : ChanId) (cause : EndCause) (v : Nat) (i : Int) (t : Option Int) : State :=
  match (s.chan c).seq.stepCopy with
  | none => s
  | some r => if r.report then s.produce c (.stepEnd (stepEndBody (s.chan c).seq (s.chan c).acct cause v i t)) else s

/-- A STEP_END record with end cause COMMAND: its final values are those of the last primary sample, or 0 and absent
when there is none (R77). -/
def State.stepEndCommand (s : State) (c : ChanId) : State :=
  match (s.chan c).track.lastPrimary with
  | some p => s.stepEnd c .command p.v p.i p.t
  | none => s.stepEnd c .command 0 0 none

/-- Parts 2 to 5 of a transition's beginning (R61): the step accumulators reset, step copy, peak and cursor cleared, ZERO
offered, the position set, the chain count 0 and the transition in flight. -/
def State.openTransition (s : State) (c : ChanId) (index : Nat) (hp : Option HoldKind) : State :=
  ((s.modChan c (fun ch => { ch with
      acct := ch.acct.resetStep
      seq := { ch.seq with stepCopy := none, peak := none, ordinal := 0, segStart := 0 } })).offerZero c).modSeq c
    (fun q => { q with index := index, chain := 0, inFlight := true, holdPending := hp })

/-- A transition begins at a continuation index, and the channel joins the step fetch queue (R61). -/
def State.beginTransition (s : State) (c : ChanId) (index : Nat) (hp : Option HoldKind) : State :=
  (s.openTransition c index hp).joinFetch c

/-- A program fault stops the transition in which it is found (R71, R121): the fault is entered and recorded, ZERO is
offered, and the channel is HELD with resume point FAULT. -/
def State.programFault (s : State) (c : ChanId) (cause : Cause) : State :=
  ((((s.modSeq c (fun q => q.cease .fault)).enterFault c (FaultEntry.bare cause)).faultRecord c
    (FaultEntry.bare cause) .programFault).offerZero c).changeState c .held .programFault

/-! ## Evaluating a delivery -/

/-- A terminator slot fires (R74, R75). DEDUCED: a BREAK without a loop offers the transition's ZERO and the fault's
(notes/assumptions/14.md). -/
def State.fire (s : State) (c : ChanId) (cause : EndCause) (tm : Terminator) (d : Delivery) : State :=
  let s1 := s.stepEnd c cause d.v d.i d.t
  let q := (s.chan c).seq
  match tm.action with
  | .next => s1.beginTransition c (q.index + 1) none
  | .goto => s1.beginTransition c tm.target none
  | .hold => s1.beginTransition c (q.index + 1) (some .program)
  | .brk =>
    match q.stack with
    | .loopFrame _ finish _ _ :: rest =>
      (s1.modSeq c (fun q => { q with stack := rest })).beginTransition c (finish + 1) none
    | .callFrame _ _ :: _ => (s1.openTransition c q.index none).programFault c .nesting
    | [] => (s1.openTransition c q.index none).programFault c .nesting
  | .endProgram =>
    ((s1.modSeq c (fun q => { q with stepCopy := none, stack := [], resume := .none })).offerZero c).changeState c
      .complete .endProgram

/-- The table port's next segment write lands (R51, R52): the management access that is due is started, and the one in
progress completes. -/
def State.landWrite (s : State) : State := s.portNext.completeAccess

/-- `n` segment writes land one after another (R53). -/
def State.landWrites (s : State) : Nat → State
  | 0 => s
  | n + 1 => s.landWrite.landWrites n

/-- The WRITE_TABLE of profile segments whose next record the table port is writing now or would start to write now (R63):
the one write that can land between two reads of a PROFILE evaluation and be seen by the later one. -/
def State.segmentWrite (s : State) : Option TableJob :=
  s.job.filter (fun j => j.write && j.table == .segment && s.portNext.port == .access)

/-- The moment before a segment is read in a PROFILE evaluation (R51). The reads do not wait for the table port, so segment
writes may land there: FREE VALUE, any number that the request has left (notes/assumptions/13.md). A second one lands only
where no fetch takes its turn at the port (R63). Writes of other tables are not asked for: the evaluation reads its
descriptor once, before its first segment, and no other table, so a write of theirs that lands here is one that completes
at the next event. -/
def State.betweenReads (s : State) : State :=
  match s.segmentWrite with
  | none => s
  | some j => ({ s with readRaces := s.readRaces + 1 }).landWrites (min j.left (Config.writesLanding s.readRaces))

/-- Where the advance of a profile cursor ends (R76): whether the profile has ended, the ordinal, the segment start, the
current of the segment last read, and the state in which its last read was made. -/
structure CursorMove where
  ended   : Bool
  ordinal : Nat
  start   : Nat
  current : Int
  after   : State
  deriving DecidableEq, Repr

/-- The advance of the profile cursor (R76) in state `s`. Each segment is read once and whole, as it stands then (R51). The
number bounds the moves; `profileFuel` is always enough. -/
def profileAdvance (d : ProfileDesc) (ts : Nat) : Nat → State → Nat → Nat → CursorMove
  | 0, s, o, start => { ended := false, ordinal := o, start := start, current := 0, after := s }
  | n + 1, s, o, start =>
    if d.count ≤ o then
      match d.rep with
      | .once => { ended := true, ordinal := o, start := start, current := 0, after := s }
      | .wrap => profileAdvance d ts n s 0 start
    else
      let u := s.betweenReads
      let g := u.segment (d.first + o)
      if start + g.effHold ≤ ts then profileAdvance d ts n u (o + 1) (start + g.effHold)
      else { ended := false, ordinal := o, start := start, current := g.current, after := u }

/-- Moves that suffice for the advance: every segment passed takes at least one tick, and a wrap follows at most each. -/
def profileFuel (ts start : Nat) : Nat := 2 * (ts - start) + 3

/-- Parts 4 and 5 of the evaluation of a PROFILE step (R73, R76): the cursor advances, then the step ends with PROFILE_END
and action NEXT, or the current segment is driven. The descriptor is read once, then the segments (R51). -/
def State.evalProfile (s : State) (c : ChanId) (r : StepRecord) (d : Delivery) : State :=
  let desc := s.profileDesc r.b
  let q := (s.chan c).seq
  if desc.valid then
    let ts := (s.chan c).acct.ts
    let res := profileAdvance desc ts (profileFuel ts q.segStart) s q.ordinal q.segStart
    let s1 := res.after.modSeq c (fun q => { q with ordinal := res.ordinal, segStart := res.start })
    if res.ended then (s1.stepEnd c .profileEnd d.v d.i d.t).beginTransition c (q.index + 1) none
    else s1.emitRun c r d res.current
  else (s.stepEnd c .profileEnd d.v d.i d.t).beginTransition c (q.index + 1) none

/-- The step's peak voltage with a delivery taken in (R73). -/
def peakWith (peak : Option Nat) (v : Nat) : Nat :=
  match peak with
  | none => v
  | some p => max p v

/-- The evaluation of a delivery against the executing step (R73): peak, grace, terminators, profile, setpoint. -/
def State.evaluate (s : State) (c : ChanId) (d : Delivery) : State :=
  match (s.chan c).seq.stepCopy with
  | none => s
  | some r =>
    let pk := peakWith (s.chan c).seq.peak d.v
    let s1 := s.modSeq c (fun q => { q with peak := some pk, grace := false })
    match (if (s.chan c).seq.grace then none else firedSlot r d (s.chan c).acct pk) with
    | some (cause, tm) => s1.fire c cause tm d
    | none =>
      match r.op with
      | .profile => s1.evalProfile c r d
      | .rest | .cc | .cp | .cccv | .invalid | .loop | .endloop | .call | .ret | .endProgram => s1.emitRun c r d 0

/-- The sequencer acts on a delivery by the state that the supervisor has left (R72, R78). -/
def State.sequence (s : State) (c : ChanId) (d : Delivery) : State :=
  match (s.chan c).state with
  | .running =>
    if (s.chan c).seq.inFlight then
      s.modSeq c (fun q => { q with
        pendingEval := some d, lostEval := if q.pendingEval.isSome then bump q.lostEval else q.lostEval })
    else s.evaluate c d
  | .off | .held | .complete | .isolated => s

/-! ## Processing a fetched record -/

/-- The limit of the descriptor cache; an empty cache reaches no record. -/
def Sequencing.limit (q : Sequencing) : Nat :=
  match q.cache with
  | some k => k.limit
  | none => 0

/-- The transition goes on at a new position: the channel joins the back of the step fetch queue again (R65). -/
def State.continueAt (s : State) (c : ChanId) (f : Sequencing → Sequencing) : State := (s.modSeq c f).joinFetch c

/-- A LOOP record (R66). -/
def State.doLoop (s : State) (c : ChanId) (r : StepRecord) : State :=
  let q := (s.chan c).seq
  if r.b ≤ q.index then s.programFault c .stepInvalid
  else if q.limit ≤ r.b then s.programFault c .bound
  else if r.a = 0 then s.continueAt c (fun q => { q with index := r.b + 1 })
  else if Config.stackMax ≤ q.stack.length then
    (s.modSeq c (fun q => { q with stackOverflow := true })).programFault c .stackOverflow
  else
    s.continueAt c (fun q => { q with
      stack := .loopFrame (q.index + 1) r.b r.a.toNat r.cycle :: q.stack, index := q.index + 1 })

/-- One cycle is counted at a cycle-flagged ENDLOOP (R31, R67): the cycle count, the CYCLE_END record, then the reset of
the cycle accumulators. -/
def State.countCycle (s : State) (c : ChanId) : State :=
  let n := satAdd Config.max32 (s.chan c).seq.cycleCount 1
  ((s.modSeq c (fun q => { q with cycleCount := n })).produce c (.cycleEnd (cycleEndBody (s.chan c).acct n))).modAcct c
    Accounts.resetCycle

/-- An ENDLOOP record (R67). -/
def State.doEndloop (s : State) (c : ChanId) : State :=
  let q := (s.chan c).seq
  match q.stack with
  | .loopFrame start finish remaining cycle :: rest =>
    if finish = q.index then
      let s1 := if cycle then s.countCycle c else s
      if 0 < remaining - 1 then
        s1.continueAt c (fun q => { q with
          stack := .loopFrame start finish (remaining - 1) cycle :: rest, index := start })
      else s1.continueAt c (fun q => { q with stack := rest, index := q.index + 1 })
    else s.programFault c .nesting
  | .callFrame _ _ :: _ => s.programFault c .nesting
  | [] => s.programFault c .nesting

/-- A CALL record (R68). -/
def State.doCall (s : State) (c : ChanId) (r : StepRecord) : State :=
  let q := (s.chan c).seq
  let d := s.programDesc r.b
  if d.valid then
    if Config.stackMax ≤ q.stack.length then
      (s.modSeq c (fun q => { q with stackOverflow := true })).programFault c .stackOverflow
    else
      s.continueAt c (fun q => { q with
        stack := .callFrame q.selector (q.index + 1) :: q.stack, cache := some d.toCache, selector := r.b, index := 0 })
  else s.programFault c .descriptorInvalid

/-- The topmost CALL frame of a stack, with the frames below it (R69). -/
def topCall : List StackFrame → Option (Nat × Nat × List StackFrame)
  | [] => none
  | .callFrame sel idx :: rest => some (sel, idx, rest)
  | .loopFrame _ _ _ _ :: rest => topCall rest

/-- A RETURN record (R69). -/
def State.doReturn (s : State) (c : ChanId) : State :=
  match topCall (s.chan c).seq.stack with
  | none => (s.modSeq c (fun q => { q with stackUnderflow := true })).programFault c .stackUnderflow
  | some (sel, idx, rest) =>
    if (s.programDesc sel).valid then
      s.continueAt c (fun q => { q with
        stack := rest, cache := some (s.programDesc sel).toCache, selector := sel, index := idx })
    else s.programFault c .descriptorInvalid

/-- An END record (R70). -/
def State.doEnd (s : State) (c : ChanId) : State :=
  (s.modSeq c (fun q => { q with
    stack := [], inFlight := false, holdPending := none, resume := .none, chain := 0, pendingEval := none })).changeState
    c .complete .endProgram

/-- The authority and profile checks of a drive record (R65). -/
def State.driveAllowed (s : State) (c : ChanId) (r : StepRecord) : Bool :=
  match (s.chan c).seq.cache with
  | none => false
  | some k =>
    match r.op with
    | .cc => !(decide (r.a > 0) && !k.allowCharge) && !(decide (r.a < 0) && !k.allowDischarge)
    | .cccv => k.allowCharge
    | .profile => (s.profileDesc r.b).valid
    | .rest | .cp | .invalid | .loop | .endloop | .call | .ret | .endProgram => true

/-- The transition completes and the step begins (R65, R79, R86): the record becomes the step copy, the regulator value is
started, and a delivery waiting in the pending-evaluation slot is evaluated. -/
def State.beginStep (s : State) (c : ChanId) (r : StepRecord) : State :=
  let s1 := s.modChan c (fun ch => { ch with
    seq := { ch.seq with
      stepCopy := some r, peak := none, ordinal := 0, segStart := 0, phase := .cc, chain := 0, inFlight := false,
      pendingEval := none }
    sp := { ch.sp with regulator := startR r } })
  match (s.chan c).seq.pendingEval with
  | some d => s1.evaluate c d
  | none => s1

/-- The transition reaches a drive record with hold-pending set: the step does not begin and the channel is HELD (R65). -/
def State.holdAtDrive (s : State) (c : ChanId) (h : HoldKind) : State :=
  ((s.modSeq c (fun q => { q with
    stepCopy := none, inFlight := false, chain := 0, resume := .transition, pendingEval := none,
    holdPending := none })).offerZero c).changeState c .held
    (match h with
     | .command => .command
     | .program => .programHold)

/-- A drive record (R65). -/
def State.doDrive (s : State) (c : ChanId) (r : StepRecord) : State :=
  if s.driveAllowed c r then
    match (s.chan c).seq.holdPending with
    | none => s.beginStep c r
    | some h => s.holdAtDrive c h
  else s.programFault c .stepInvalid

/-- A record read for a transition still in flight is processed (R65). -/
def State.processRecord (s : State) (c : ChanId) (r : StepRecord) : State :=
  match r.op with
  | .invalid => s.programFault c .stepInvalid
  | .loop => s.doLoop c r
  | .endloop => s.doEndloop c
  | .call => s.doCall c r
  | .ret => s.doReturn c
  | .endProgram => s.doEnd c
  | .rest | .cc | .cp | .cccv | .profile => s.doDrive c r

/-! ## The two ends of a fetch access -/

/-- What a fetch finds at its start (R64): the chain count first, then the index against the limit. -/
def fetchOutcome (q : Sequencing) : FetchOutcome :=
  if Config.chainMax ≤ q.chain then .chain
  else
    match q.cache with
    | some k => if k.limit ≤ q.index then .bound else .read (k.base + q.index)
    | none => .bound

/-- The chain count after a fetch has started (R64). -/
def fetchChain (q : Sequencing) : Nat :=
  match fetchOutcome q with
  | .read _ => q.chain + 1
  | .chain | .bound => q.chain

/-- The table port takes the head channel of the step fetch queue and starts a fetch (R63, R64). -/
def State.startFetch (s : State) : State :=
  match s.fetchQueue with
  | [] => s
  | c :: rest =>
    { s with
      fetchQueue := rest
      port := .fetch c (fetchOutcome (s.chan c).seq) true
      portLast := .fetch
      channels := s.channels.set c.val { s.chan c with
        seq := { (s.chan c).seq with chain := fetchChain (s.chan c).seq } } }

/-- What a completed fetch does for a transition still in flight (R64, R65). -/
def State.finishFetch (s : State) (c : ChanId) (o : FetchOutcome) : State :=
  match o with
  | .chain => s.programFault c .chain
  | .bound => s.programFault c .bound
  | .read i => s.processRecord c (s.stepRec i)

/-- A fetch access completes: its outcome is used, or discarded when its transition is no longer in flight (R64). -/
def State.completeFetch (s : State) : State :=
  match s.port with
  | .fetch c o live => if live then ({ s with port := .free }).finishFetch c o else { s with port := .free }
  | .free => s
  | .access => s

end Sys2Proof.Machine
end

