-- ==== Sys2Proof/Machine/Supervisor.lean ====
section
/-! DEFINITION. The supervisor (Section 6): the score and the confinement level, trips, entries without trip, recovery,
and what PLAUSIBILITY events, silence events and the emergency stop do to a channel. -/

namespace Sys2Proof.Machine

open Sys2Proof

/-- A score update in RUNNING, HELD or COMPLETE (R109 to R111): the score, the level that follows it, and a STATE record
with reason LEVEL when the band changes. -/
def State.setScore (s : State) (c : ChanId) (n : Nat) : State :=
  let s1 := s.modSup c (fun u => { u with score := n, level := band n })
  if band n = (s.chan c).sup.level then s1 else s1.stateRecord c (s.chan c).state .level

/-- The score after a delivery (R109): 8 for each soft kind, saturating at 255; less 1 for a clean delivery. -/
def scoreAfter (score soft : Nat) (hard : Bool) : Nat :=
  if 0 < soft then min Config.scoreMax (score + Config.softWeight * soft)
  else if hard then score else score - 1

/-- A sum above 255 raises SCORE (R109). -/
def scoreRaised (score soft : Nat) : Bool := decide (0 < soft) && decide (score + Config.softWeight * soft > Config.scoreMax)

/-- A trip (R113), with the reason that its STATE record carries. -/
def State.trip (s : State) (c : ChanId) (e : FaultEntry) (reason : Reason) : State :=
  ((((((s.enterFault c e).faultRecord c e .trip).giveUp c).offerOpen c).modSup c
    (fun u => { u with recovery := 0, hardMark := decide (e.lead ≠ .score) }))).changeState c
    (match (s.cfg c).policy with
     | .holdAtTrip => .held
     | .auto | .holdAfterRecovery | .controller => .isolated) reason

/-- A fault met in HELD or COMPLETE (R114, R115): entered, with a FAULT record of action RECORD_ONLY. -/
def State.recordOnly (s : State) (c : ChanId) (e : FaultEntry) : State :=
  (s.enterFault c e).faultRecord c e .recordOnly

/-- A hard kind met in ISOLATED (R114, R115): entered, the hard mark set and the recovery count 0, no FAULT record. -/
def State.isolatedFault (s : State) (c : ChanId) (e : FaultEntry) : State :=
  (s.enterFault c e).modSup c (fun u => { u with recovery := 0, hardMark := true })

/-- Recovery completes (R117). DEDUCED: a return to RUNNING leaves the resume point TRANSITION, which no rule changes there
(notes/assumptions/10.md). -/
def State.recover (s : State) (c : ChanId) : State :=
  let toRunning := match (s.cfg c).policy with
    | .auto | .controller => !(s.chan c).sup.hardMark
    | .holdAfterRecovery | .holdAtTrip => false
  let s1 := s.modSup c (fun u => { u with score := 0, level := .normal, recovery := 0, hardMark := false })
  if toRunning then (s1.changeState c .running .recovered).beginTransition c (s.chan c).seq.index none
  else s1.changeState c .held .recovered

/-- A clean delivery taken in ISOLATED (R116): counted while the engine is READY, left alone in ESTOP. -/
def State.countClean (s : State) (c : ChanId) : State :=
  match s.engine with
  | .ready =>
    if Config.recoveryMax ≤ (s.chan c).sup.recovery + 1 then s.recover c
    else s.modSup c (fun u => { u with recovery := u.recovery + 1 })
  | .estop | .init => s

/-- A fault that a delivery carries, with its sample values (R119). -/
def deliveryEntry (l : LimitSet) (d : Delivery) (lead : Cause) (others : List Cause) : FaultEntry :=
  { lead := lead, others := others, vi := some (d.v, d.i), t := entryTemp l d lead }

/-- What a fault cause does in RUNNING, HELD or COMPLETE (R108, R112 to R114). -/
def State.faultIn (s : State) (c : ChanId) (e : FaultEntry) : State :=
  match (s.chan c).state with
  | .running => s.trip c e .trip
  | .held | .complete => s.recordOnly c e
  | .off | .isolated => s

/-- The supervisor acts on a delivery (R108). -/
def State.supervise (s : State) (c : ChanId) (d : Delivery) : State :=
  let l := s.limits c
  let hard := hardKinds l d
  let soft := softCount l d
  match (s.chan c).state with
  | .off => s
  | .isolated =>
    match hard with
    | h :: t => s.isolatedFault c (deliveryEntry l d h t)
    | [] => if 0 < soft then s.modSup c (fun u => { u with recovery := 0 }) else s.countClean c
  | .running | .held | .complete =>
    let score := (s.chan c).sup.score
    let s1 := s.setScore c (scoreAfter score soft !hard.isEmpty)
    match hard ++ (if scoreRaised score soft then [.score] else []) with
    | h :: t => s1.faultIn c (deliveryEntry l d h t)
    | [] => s1

/-- A PLAUSIBILITY event (R111). -/
def State.plausibility (s : State) (c : ChanId) : State :=
  match (s.chan c).state with
  | .off => s
  | .isolated => s.modSup c (fun u => { u with recovery := 0 })
  | .running | .held | .complete =>
    let score := (s.chan c).sup.score
    let s1 := s.setScore c (scoreAfter score 1 false)
    if scoreRaised score 1 then s1.faultIn c (FaultEntry.bare .score) else s1

/-- A silence event (R115). -/
def State.silenceEvent (s : State) (c : ChanId) : State :=
  match (s.chan c).state with
  | .off => s
  | .running => s.trip c (FaultEntry.bare .silence) .trip
  | .held | .complete => s.recordOnly c (FaultEntry.bare .silence)
  | .isolated => s.isolatedFault c (FaultEntry.bare .silence)

/-- An emergency stop handed to a channel (R114, R186). -/
def State.estopChannel (s : State) (c : ChanId) : State :=
  match (s.chan c).state with
  | .off => s
  | .running | .held | .complete => s.trip c (FaultEntry.bare .estop) .estop
  | .isolated => (s.isolatedFault c (FaultEntry.bare .estop)).faultRecord c (FaultEntry.bare .estop) .recordOnly

end Sys2Proof.Machine
end

