-- ==== Sys2Proof/Machine/Acceptance.lean ====
section
/-! DEFINITION. The acceptance unit (Section 1): claiming a SAMPLE frame, sequence tracking, the cadence, stuck and
overrange kinds, auxiliary temperature, the plausibility comparison, and the delivery. -/

namespace Sys2Proof.Machine

open Sys2Proof

/-- An entry matches a tag: enabled, and every bit that is 1 in its mask agrees (R1, R4). -/
def AcceptEntry.matchesTag (e : AcceptEntry) (tag : Byte) : Bool := e.enable && (tag &&& e.mask) == (e.tag &&& e.mask)

/-- The entry that claims a tag: the lowest-numbered enabled one that matches (R4). -/
def State.claim (s : State) (tag : Byte) : Option AcceptEntry :=
  ((List.range Config.acceptSize).map s.acceptEntry).find? (fun e => e.matchesTag tag)

/-- What sequence tracking makes of a PRIMARY sample (R8, R9). -/
inductive Tracked where
  | reference
  | duplicate
  | stale
  | accepted (span : Nat) (unclamped : Nat) (gap : Bool)
  deriving DecidableEq, Repr

/-- The outcome by the difference of sequence numbers (R8, R9). -/
def trackSeq (reference : Option Byte) (seq : Byte) (gapLimit : Nat) : Tracked :=
  match reference with
  | none => .reference
  | some r =>
    let k := (seq - r).toNat
    if k = 0 then .duplicate
    else if 128 ≤ k then .stale
    else if k ≤ gapLimit then .accepted k k false
    else .accepted gapLimit k true

/-- The cadence comparison (R11): spacing against k × P. -/
def offCadence (now last : Tick) (span period : Nat) : Bool :=
  let spacing := (now - last).toNat
  decide (2 * spacing < span * period) || decide (spacing > 2 * (span * period))

/-- The stuck comparison of a non-reference sample in a channel that is not OFF (R14, R15): the new count, the new latch,
and whether the sample carries STUCK. -/
def stuckStep (t : Tracking) (v : Nat) (i : Int) : Nat × Bool × Bool :=
  let same := match t.lastPrimary with
    | some p => p.v == v
    | none => false
  if t.stuckLatch then (if same then (t.stuckCount, true, false) else (0, false, false))
  else if same && decide (Config.stuckCurrent ≤ i.natAbs) then
    (if t.stuckCount + 1 = Config.stuckMax then (Config.stuckMax, true, true) else (t.stuckCount + 1, false, false))
  else (0, false, false)

/-- The updates that every accepted PRIMARY sample makes (R10). -/
def Tracking.accept (t : Tracking) (f : SampleFields) (now : Tick) (off : Bool) (expiry : Tick) : Tracking :=
  { t with
    reference := some f.seq, lastArrival := some now, lastPrimary := some { v := f.v, i := f.i, t := f.t }
    silence := if off then t.silence else some expiry }

/-- The AUX temperature that a delivery carries: the stored one while it is fresh (R18, R20). -/
def Tracking.freshAux (t : Tracking) : Option Int := if t.auxFresh then t.aux.map (·.1) else none

/-- A delivery is handed to its channel (R20): accounted, supervised, then sequenced (R72, R108). -/
def State.deliver (s : State) (c : ChanId) (d : Delivery) : State :=
  ((s.accountDelivery c d).supervise c d).sequence c d

/-- A reference sample (R8, R10). -/
def State.acceptReference (s : State) (c : ChanId) (f : SampleFields) : State :=
  let off := (s.chan c).state == .off
  (s.modTrack c (fun t => t.accept f s.timeBase off (s.tickIn (s.cfg c).silenceTicks))).deliver c
    { tick := s.timeBase, v := f.v, i := f.i, t := f.t, span := 0, gap := false, cadence := false,
      overrange := f.overrange, stuck := false, aux := (s.chan c).track.freshAux }

/-- An accepted sample that is no reference sample (R9 to R11, R14 to R16). -/
def State.acceptSample (s : State) (c : ChanId) (f : SampleFields) (span unclamped : Nat) (gap : Bool) : State :=
  let off := (s.chan c).state == .off
  let t := (s.chan c).track
  let period := (s.cfg c).period
  let cad := match t.lastArrival with
    | some last => offCadence s.timeBase last span period
    | none => false
  let st := if off then (t.stuckCount, t.stuckLatch, false) else stuckStep t f.v f.i
  (s.modTrack c (fun t => { t.accept f s.timeBase off (s.tickIn (s.cfg c).silenceTicks) with
      stuckCount := st.1, stuckLatch := st.2.1
      missed := satAdd Config.counterMax t.missed (unclamped - 1)
      gapClamp := if gap then bump t.gapClamp else t.gapClamp
      cadence := if cad then bump t.cadence else t.cadence })).deliver c
    { tick := s.timeBase, v := f.v, i := f.i, t := f.t, span := span, gap := gap, cadence := cad,
      overrange := f.overrange, stuck := st.2.2, aux := t.freshAux }

/-- A claimed PRIMARY frame (R8, R9). -/
def State.primaryFrame (s : State) (c : ChanId) (f : SampleFields) : State :=
  match trackSeq (s.chan c).track.reference f.seq (s.cfg c).gapLimit with
  | .reference => s.acceptReference c f
  | .duplicate => s.modTrack c (fun t => { t with duplicate := bump t.duplicate })
  | .stale => s.modTrack c (fun t => { t with stale := bump t.stale })
  | .accepted span unclamped gap => s.acceptSample c f span unclamped gap

/-- A claimed AUX frame (R17, R18): a present temperature is stored with its arrival tick and becomes fresh. -/
def State.auxFrame (s : State) (c : ChanId) (f : SampleFields) : State :=
  match f.t with
  | none => s
  | some v => s.modTrack c (fun t => { t with
      aux := some (v, s.timeBase), auxFresh := true, auxTimer := some (s.tickIn ((s.cfg c).silenceTicks + 1)) })

/-- A claimed CHECK frame (R19). -/
def State.checkFrame (s : State) (c : ChanId) (f : SampleFields) : State :=
  match (s.chan c).track.lastPrimary with
  | none => s
  | some p =>
    if (s.limits c).valid ∧ ((f.v : Int) - p.v).natAbs > (s.limits c).tolerance then s.plausibility c else s

/-- A claimed frame is used by the role of its entry (R5); a frame for an unconfigured channel has no effect. -/
def State.useClaimed (s : State) (e : AcceptEntry) (f : SampleFields) : State :=
  if (s.cfg e.channel).configured then
    match e.role with
    | .primary => s.primaryFrame e.channel f
    | .aux => s.auxFrame e.channel f
    | .check => s.checkFrame e.channel f
  else s

end Sys2Proof.Machine
end

