-- ==== Sys2Proof/Machine/Commands.lean ====
section
/-! DEFINITION. The channel commands (Section 7.4, R129 to R137, R165): the checks in their order, the effect of each
accepted command, and the answer with the channel's state after it. -/

namespace Sys2Proof.Machine

open Sys2Proof

/-! ## The answer of a channel command -/

/-- The results of a CHANNEL_COMMAND answer (R165): channel number, command code and the channel's state now, whenever the
channel number is in 0..31. DESIGN CHOICE: a request too short to hold both carries none (notes/assumptions/9.md). -/
def State.commandResults (s : State) (r : Request) : List Byte :=
  if 2 ≤ r.args.length then
    if h : u8At r.args 0 < 32 then
      [r.args.getD 0 0, r.args.getD 1 0] ++ natBytes 1 (s.chan ⟨u8At r.args 0, h⟩).state.code
    else []
  else []

/-- The answer of a channel command (R129, R165). -/
def State.commandAnswer (s : State) (r : Request) (st : Status) : State := s.placeAnswer r st (s.commandResults r)

/-- A channel command is executed (R129, R165): the length for its command code, the channel number, the ranges of its
arguments, and then the channel controller's own checks and effect. -/
def State.runCommand (s : State) (r : Request) (argLen : Nat) (inRange : Bool)
    (act : State → ChanId → Status × State) : State :=
  if r.args.length = 2 + argLen then
    if h : u8At r.args 0 < 32 then
      if inRange then
        (act s ⟨u8At r.args 0, h⟩).2.commandAnswer r (act s ⟨u8At r.args 0, h⟩).1
      else s.commandAnswer r .badArgument
    else s.commandAnswer r .badArgument
  else s.commandAnswer r .badLength

/-! ## CONFIGURE (R124) -/

/-- CONFIGURE of a channel with a record whose fields passed their ranges. -/
def cmdConfigure (rec_ : ConfigRec) (s : State) (c : ChanId) : Status × State :=
  if (s.chan c).state = .off then
    if rec_.configured && !(s.limitSet rec_.limitSet).valid then (.badArgument, s)
    else
      (.ok, { (s.modTrack c (fun _ => Tracking.reset)) with
        configTable := Table.write ConfigRec.reset s.configTable c.val rec_ })
  else (.wrongState, s)

/-! ## START (R130) -/

/-- What the blocks do at an accepted START before the channel enters RUNNING (R7, R32, R58, R95, R105). -/
def Channel.started (ch : Channel) (selector index : Nat) (d : ProgramDesc) (silence : Tick) : Channel :=
  { ch with
    track := { ch.track with
      reference := none, lastArrival := none, stuckCount := 0, stuckLatch := false, silence := some silence }
    acct := ch.acct.start
    sup := { ch.sup with score := 0, level := .normal, recovery := 0, hardMark := false }
    sp := { ch.sp with nextSeq := 0 }
    seq := { ch.seq with
      cache := some d.toCache, selector := selector, index := index, stack := [], stackOverflow := false,
      stackUnderflow := false, cycleCount := 0, grace := false, resume := .none, pendingEval := none } }

/-- An accepted START (R130). -/
def State.doStart (s : State) (c : ChanId) (selector index : Nat) : State :=
  ((s.modChan c (fun ch =>
      ch.started selector index (s.programDesc selector) (s.tickIn (s.cfg c).silenceTicks))).changeState c .running
    .command).beginTransition c index none

/-- START of a channel. -/
def cmdStart (selector index : Nat) (s : State) (c : ChanId) : Status × State :=
  if (s.chan c).state = .off ∨ (s.chan c).state = .complete then
    if !((s.cfg c).configured && (s.limits c).valid) then (.badConfig, s)
    else if s.engine = .estop then (.estop, s)
    else if (s.programDesc selector).valid ∧ index < (s.programDesc selector).limit then
      (.ok, s.doStart c selector index)
    else (.badArgument, s)
  else (.wrongState, s)

/-! ## HOLD (R131) -/

/-- HOLD of a RUNNING channel with no transition in flight (R80). -/
def State.holdStep (s : State) (c : ChanId) : State :=
  ((s.modSeq c (fun q => { q with resume := .step })).offerZero c).changeState c .held .command

/-- HOLD of an ISOLATED channel under CONTROLLER (R118). -/
def State.holdIsolated (s : State) (c : ChanId) : State :=
  (s.modSup c (fun u => { u with recovery := 0, hardMark := false })).changeState c .held .command

/-- HOLD of a channel. -/
def cmdHold (s : State) (c : ChanId) : Status × State :=
  match (s.chan c).state with
  | .running =>
    if (s.chan c).seq.inFlight then
      (.ok, s.modSeq c (fun q => { q with
        holdPending := match q.holdPending with
          | none => some .command
          | some h => some h }))
    else (.ok, s.holdStep c)
  | .held => (.ok, s)
  | .isolated =>
    match (s.cfg c).policy with
    | .controller => (.ok, s.holdIsolated c)
    | .auto | .holdAfterRecovery | .holdAtTrip => (.wrongState, s)
  | .off | .complete => (.wrongState, s)

/-! ## RESUME (R132, R133) -/

/-- An accepted RESUME (R84, R132, R133). -/
def State.doResume (s : State) (c : ChanId) (grace : Bool) : State :=
  let s1 := (s.modChan c (fun ch => { ch with
    seq := { ch.seq with resume := .none, grace := grace }
    sup := { ch.sup with hardMark := false } })).changeState c .running .command
  match (s.chan c).seq.resume with
  | .step => s1
  | .transition | .fault | .none => s1.beginTransition c (s.chan c).seq.index none

/-- RESUME of a channel. -/
def cmdResume (grace : Bool) (s : State) (c : ChanId) : Status × State :=
  if (s.chan c).state = .held then
    if s.engine = .estop then (.estop, s) else (.ok, s.doResume c grace)
  else (.wrongState, s)

/-! ## STOP (R134) -/

/-- What a channel's contexts become when STOP makes it OFF (R7, R81, R96, R118). -/
def Channel.stopped (ch : Channel) : Channel :=
  { ch with
    seq := { ch.seq.cease .none with stepCopy := none }
    track := { ch.track with silence := none, stuckCount := 0, stuckLatch := false }
    sp := { ch.sp with refresh := none }
    sup := match ch.state with
      | .isolated => { ch.sup with recovery := 0, hardMark := false }
      | .off | .running | .held | .complete => ch.sup }

/-- An accepted STOP (R134). -/
def State.doStop (s : State) (c : ChanId) : State :=
  let s1 := (s.leaveFetch c).modChan c Channel.stopped
  let s2 := match (s.chan c).state with
    | .running | .held => s1.offerZero c
    | .off | .complete | .isolated => s1
  s2.changeState c .off .command

/-- STOP of a channel. -/
def cmdStop (s : State) (c : ChanId) : Status × State :=
  if (s.chan c).state = .off then (.wrongState, s) else (.ok, s.doStop c)

/-! ## JUMP (R135) -/

/-- JUMP of a HELD channel (R82). -/
def State.jumpHeld (s : State) (c : ChanId) (index : Nat) : State :=
  let s1 := match (s.chan c).seq.resume with
    | .step => (s.stepEndCommand c).modSeq c (fun q => { q with stepCopy := none })
    | .none | .transition | .fault => s
  s1.modSeq c (fun q => { q with index := index, resume := .transition })

/-- JUMP of a channel. -/
def cmdJump (index : Nat) (s : State) (c : ChanId) : Status × State :=
  match (s.chan c).state with
  | .running =>
    if (s.chan c).seq.inFlight then (.busy, s) else (.ok, (s.stepEndCommand c).beginTransition c index none)
  | .held => (.ok, s.jumpHeld c index)
  | .off | .complete | .isolated => (.wrongState, s)

/-! ## CLEAR_FAULT and CLEAR_TOTALS (R136, R137) -/

/-- CLEAR_FAULT of a channel (R27, R58, R122, R136). -/
def cmdClearFault (s : State) (c : ChanId) : Status × State :=
  (.ok, s.modChan c (fun ch => { ch with
    sup := { ch.sup with fault := FaultRecord.empty }
    acct := ch.acct.clearFlags
    seq := { ch.seq with stackOverflow := false, stackUnderflow := false } }))

/-- CLEAR_TOTALS of a channel (R33, R137). -/
def cmdClearTotals (s : State) (c : ChanId) : Status × State :=
  if (s.chan c).state = .off then (.ok, s.modAcct c Accounts.clearTotals) else (.wrongState, s)

/-! ## One request of each command row -/

/-- CONFIGURE: 16 bytes of arguments in the CONFIG form (R165). -/
def reqConfigure (s : State) (r : Request) : State :=
  s.runCommand r 16 (readConfig (r.args.drop 2)).isSome
    (cmdConfigure ((readConfig (r.args.drop 2)).getD ConfigRec.reset))
/-- START: a selector (u8) and a relative index (u16). -/
def reqStart (s : State) (r : Request) : State :=
  s.runCommand r 3 (decide (u8At r.args 2 ≤ 63) && decide (u16At r.args 3 ≤ 1023))
    (cmdStart (u8At r.args 2) (u16At r.args 3))
/-- HOLD: no arguments. -/
def reqHold (s : State) (r : Request) : State := s.runCommand r 0 true cmdHold
/-- RESUME: grace (u8). -/
def reqResume (s : State) (r : Request) : State :=
  s.runCommand r 1 (readBool (u8At r.args 2)).isSome (cmdResume ((readBool (u8At r.args 2)).getD false))
/-- STOP: no arguments. -/
def reqStop (s : State) (r : Request) : State := s.runCommand r 0 true cmdStop
/-- JUMP: a relative index (u16). -/
def reqJump (s : State) (r : Request) : State :=
  s.runCommand r 2 (decide (u16At r.args 2 ≤ 1023)) (cmdJump (u16At r.args 2))
/-- CLEAR_FAULT: no arguments. -/
def reqClearFault (s : State) (r : Request) : State := s.runCommand r 0 true cmdClearFault
/-- CLEAR_TOTALS: no arguments. -/
def reqClearTotals (s : State) (r : Request) : State := s.runCommand r 0 true cmdClearTotals
/-- A command code that is not defined (R129, R165), or a request too short to hold one. -/
def reqUndefinedChannelCommand (s : State) (r : Request) : State :=
  if r.args.length < 2 then s.commandAnswer r .badLength else s.commandAnswer r .badArgument

end Sys2Proof.Machine
end

