-- ==== Sys2Proof/Machine/EngineControl.lean ====
section
/-! DEFINITION. Engine control (Section 11): start-up, the table clear, the end of INIT, the engine reset, the emergency
stop, and the engine commands (R170, R171). -/

namespace Sys2Proof.Machine

open Sys2Proof

/-! ## Start-up (R183) -/

/-- RESET_N falls (R183): the transmissions are cut off, and the time base is held at 0 until the release. DEDUCED: the other
state waits for the release (notes/assumptions/12.md). -/
def State.fallReset (s : State) : State :=
  { s with
    resetN := false, timeBase := 0, upTx := none, dnTx := none
    channels := s.channels.map (fun ch => { ch with sp := { ch.sp with inTx := none } }) }

/-- RESET_N is released (R183): the straps are sampled, every item of state takes its power-on reset value, INIT is
entered and the table clear begins. DEDUCED: the tables keep what they hold until the clear completes
(notes/assumptions/11.md). The model's own `readRaces` is no item of state and goes on. -/
def State.powerOn (s : State) (addr : BitVec 4) (rate : Bool) : State :=
  { State.reset with
    pending := s.pending, estopN := s.estopN, maint := s.maint, addrStrap := addr, rateStrap := rate
    acceptTable := s.acceptTable, stepTable := s.stepTable, programTable := s.programTable
    segmentTable := s.segmentTable, profileTable := s.profileTable, limitTable := s.limitTable
    configTable := s.configTable, readRaces := s.readRaces }

/-- A final ZERO of an engine reset is pending or in transmission in this slot (R101, R185). -/
def Setpoint.awaitingFinal (sp : Setpoint) : Bool := sp.pending.any (fun f => f.final) || sp.inTx.any (fun p => p.1.final)

/-- The state in which INIT ends, by the level of ESTOP_N (R182). -/
def State.initTarget (s : State) : EngineState := if s.estopN then .ready else .estop

/-- INIT ends once no table clear is in progress and no final ZERO has still to be transmitted (R182, R185). -/
def State.endInit (s : State) : State :=
  if s.engine = .init ∧ s.clearing = false ∧ allChannels.all (fun c => !(s.chan c).sp.awaitingFinal) then
    { s with engine := s.initTarget }
  else s

/-- The table clear completes (R56, R183): the program tables, acceptance entries, limit sets and configuration records
take their power-on values, and INIT ends. -/
def State.clearTables (s : State) : State :=
  if s.clearing then
    ({ s with
      clearing := false, acceptTable := [], stepTable := [], programTable := [], segmentTable := [],
      profileTable := [], limitTable := [], configTable := [] }).endInit
  else s

/-! ## Engine reset (R101, R185) -/

/-- The setpoint context of a channel that is offered its final ZERO (R101): it replaces any pending frame without
counting SUPERSEDED and takes the slot's pending-since order. The refresh timer stops on entry to OFF (R96), and the
counters are set to 0 (R185). -/
def Setpoint.offerFinal (sp : Setpoint) (stage now : Nat) : Setpoint :=
  { sp with
    pending := some { stage := stage, command := .zero, current := 0, rep := false, final := true }
    since := if sp.pending.isSome then sp.since else some now
    refresh := none, superseded := 0, repeats := 0 }

/-- One channel at an engine reset (R185, parts 1 and 2). A slot without a pending frame takes the next pending-since
place. DESIGN CHOICE: several of them take theirs in increasing channel number, as `State.engineReset` goes through the
channels (notes/assumptions/24.md). -/
def State.resetChannel (s : State) (c : ChanId) : State :=
  { s with
    nextSince := s.nextSince + 1
    channels := s.channels.set c.val { Channel.reset with
      sp :=
        if (s.chan c).state ≠ .off ∧ (s.cfg c).shadow = false then
          (s.chan c).sp.offerFinal (s.cfg c).stage s.nextSince
        else Setpoint.reset } }

/-- A fetch access in progress at an engine reset will be discarded; a management access cannot be in progress then
(R170, R185). -/
def PortState.atReset (p : PortState) : PortState :=
  match p with
  | .fetch c o _ => .fetch c o false
  | .free => .free
  | .access => .access

/-- RESET_ENGINE takes effect (R185). R101 and R185 name no order of the channels. DESIGN CHOICE: increasing channel number,
which shows only in the pending-since order of the final ZEROs offered to slots without a pending frame
(notes/assumptions/24.md). -/
def State.engineReset (s : State) : State :=
  ({ (s.forChannels State.resetChannel) with
    fetchQueue := [], port := s.port.atReset, portLast := .management
    reports := [], dropCount := 0, relayDown := [], relayUp := [], requests := [], answers := [], job := none
    resetPending := false, link := LinkCounters.reset, relayWait := 0, upServed := .relay
    timeBase := 0, engine := .init }).endInit

/-! ## Emergency stop (R186) -/

/-- ESTOP_N falls (R182, R186): in READY the engine enters ESTOP and every channel is handed an emergency stop, in
increasing channel number; in INIT and ESTOP only the line changes. -/
def State.fallEstop (s : State) : State :=
  match s.engine with
  | .ready => ({ s with estopN := false, engine := .estop }).forChannels State.estopChannel
  | .init | .estop => { s with estopN := false }

/-! ## Engine commands (R170, R171) -/

/-- The answer of an accepted RESET_ENGINE is placed, and the unit starts no further request (R170). -/
def State.answerReset (s : State) (r : Request) : State :=
  { s with
    requests := s.requests.tail
    job := none
    answers := s.answers ++ [{ tag := r.tag, code := r.code, status := .ok, results := [], resets := true }]
    resetPending := true }

/-- RESET_ENGINE (R170). -/
def reqResetEngine (s : State) (r : Request) : State :=
  if r.args.length = 1 then s.answerReset r else s.refuse r .badLength

/-- CLEAR_ESTOP (R171, R187). -/
def reqClearEstop (s : State) (r : Request) : State :=
  if r.args.length = 1 then
    if s.estopN then
      ({ s with engine := match s.engine with
          | .estop => .ready
          | .ready => .ready
          | .init => .init }).placeAnswer r .ok []
    else s.refuse r .estop
  else s.refuse r .badLength

/-- An engine command code that is not defined (R170), or a request too short to hold one (R160). -/
def reqUndefinedEngineCommand (s : State) (r : Request) : State :=
  if r.args.length = 1 then s.refuse r .badArgument else s.refuse r .badLength

end Sys2Proof.Machine
end

