-- ==== Sys2Proof/Machine/ReadBack.lean ====
section
/-! DEFINITION. The requests that read back the engine, and CLEAR_COUNTERS (R161, R166 to R169): each is executed at one
event and its results describe the engine as it stands then. -/

namespace Sys2Proof.Machine

open Sys2Proof

/-- A request whose payload length is fixed (R160). -/
def State.withLength (s : State) (r : Request) (argLen : Nat) (f : State) : State :=
  if r.args.length = argLen then f else s.refuse r .badLength

/-- A request that carries a channel number only (R166 to R168): its length, then the range of the number. -/
def State.readOfChannel (s : State) (r : Request) (results : ChanId → List Byte) : State :=
  s.withLength r 1
    (if h : u8At r.args 0 < 32 then s.placeAnswer r .ok (results ⟨u8At r.args 0, h⟩) else s.refuse r .badArgument)

/-- The flags of a READ_CHANNEL answer, bit 0 first (R166). -/
def channelFlags (ch : Channel) : List Bool :=
  [ch.seq.inFlight, ch.seq.grace, ch.sp.pending.isSome, ch.track.lastPrimary.isSome, ch.track.auxFresh,
   ch.acct.qSat, ch.acct.eSat, ch.acct.tSat, ch.seq.stackOverflow, ch.seq.stackUnderflow]

/-- A temperature of an answer: 8000H when absent (R166). -/
def tempBytes : Option Int → List Byte
  | none => natBytes 2 0x8000
  | some t => intBytes 2 t

/-- The last primary sample of a READ_CHANNEL answer: all 0 when there is none (R166). -/
def sampleBytes : Option Sample → List Byte
  | none => natBytes 6 0
  | some p => natBytes 2 p.v ++ intBytes 2 p.i ++ tempBytes p.t

/-- The last transmitted frame of a READ_CHANNEL answer (R166). -/
def lastTxBytes : Option LastTx → List Byte
  | none => natBytes 3 0
  | some f => natBytes 1 f.command.code ++ intBytes 2 f.current

/-- The 50 bytes of a READ_CHANNEL answer (R166). -/
def channelBytes (c : ChanId) (configured : Bool) (ch : Channel) : List Byte :=
  natBytes 1 c.val ++ natBytes 1 ch.state.code ++ natBytes 1 ch.sup.level.code ++ natBytes 1 ch.sup.score ++
  natBytes 1 ch.sup.recovery ++ boolByte configured ++ natBytes 1 ch.seq.selector ++ natBytes 2 ch.seq.index ++
  natBytes 1 ch.seq.stack.length ++ natBytes 1 (holdPendingCode ch.seq.holdPending) ++
  natBytes 1 ch.seq.resume.code ++ natBytes 1 ch.seq.phase.code ++ natBytes 2 (bitsNat (channelFlags ch)) ++
  natBytes 4 ch.seq.cycleCount ++ sampleBytes ch.track.lastPrimary ++ tempBytes (ch.track.aux.map (·.1)) ++
  natBytes 1 ch.track.stuckCount ++ intBytes 2 ch.sp.regulator ++ lastTxBytes ch.sp.lastTx ++ [ch.sp.nextSeq] ++
  natBytes 2 ch.track.duplicate ++ natBytes 2 ch.track.stale ++ natBytes 2 ch.track.missed ++
  natBytes 2 ch.track.gapClamp ++ natBytes 2 ch.track.cadence ++ natBytes 2 ch.seq.lostEval ++
  natBytes 2 ch.sp.superseded ++ natBytes 2 ch.sp.repeats

/-- The 78 bytes of a READ_ACCOUNTS answer (R167). -/
def accountBytes (c : ChanId) (a : Accounts) : List Byte :=
  natBytes 1 c.val ++ intBytes 6 a.qs ++ intBytes 6 a.es ++ natBytes 4 a.ts ++ natBytes 6 a.qcIn ++
  natBytes 6 a.qcOut ++ natBytes 6 a.ecIn ++ natBytes 6 a.ecOut ++ natBytes 4 a.tc ++ natBytes 8 a.qlIn ++
  natBytes 8 a.qlOut ++ natBytes 6 a.elIn ++ natBytes 6 a.elOut ++ intBytes 4 a.residue ++
  natBytes 1 (bitsNat [a.qSat, a.eSat, a.tSat])

/-- The cause set as a number, with the cause of code n at bit n - 1 (R168). -/
def causeBits (l : List Cause) : Nat := bitsNat (allCauses.map (fun c => l.contains c))

/-- The 20 bytes of a READ_FAULT answer (R168). -/
def faultBytes (c : ChanId) (f : FaultRecord) : List Byte :=
  natBytes 1 c.val ++ natBytes 2 f.count ++ natBytes 2 (causeBits f.causes) ++
  natBytes 1 ((f.first.map Cause.code).getD 0) ++ natBytes 1 ((f.firstPos.map (·.1)).getD 0) ++
  natBytes 2 ((f.firstPos.map (·.2)).getD 0) ++ natBytes 4 (f.firstAt.getD 0).toNat ++
  natBytes 1 (bitsNat [f.firstVI.isSome, f.firstT.isSome]) ++ natBytes 2 ((f.firstVI.map (·.1)).getD 0) ++
  intBytes 2 ((f.firstVI.map (·.2)).getD 0) ++ intBytes 2 (f.firstT.getD 0)

/-- The nine link counters of a READ_COUNTERS answer (R169). -/
def counterBytes (l : LinkCounters) : List Byte :=
  natBytes 2 l.upFraming ++ natBytes 2 l.upCrc ++ natBytes 2 l.upMalformed ++ natBytes 2 l.dnFraming ++
  natBytes 2 l.dnCrc ++ natBytes 2 l.dnMalformed ++ natBytes 2 l.mgmtDrop ++ natBytes 2 l.relayDropDown ++
  natBytes 2 l.relayDropUp

/-- A channel's counters set to 0 (R21, R58, R85, R169). -/
def Channel.clearCounters (ch : Channel) : Channel :=
  { ch with
    track := { ch.track with duplicate := 0, stale := 0, missed := 0, gapClamp := 0, cadence := 0 }
    seq := { ch.seq with lostEval := 0 }
    sp := { ch.sp with superseded := 0, repeats := 0 } }

/-- Every link counter and every channel counter set to 0 (R169). -/
def State.zeroCounters (s : State) : State :=
  { s with link := LinkCounters.reset, channels := s.channels.map Channel.clearCounters }

/-! ## One request of each row -/

/-- An undefined request code (R160). -/
def reqUnknownRequest (s : State) (r : Request) : State := s.refuse r .unknownRequest

/-- The results of IDENTIFY (R161): part code C032H, revision 01H, engine address, engine state, rate strap. -/
def State.identity (s : State) : List Byte :=
  natBytes 2 0xC032 ++ natBytes 1 0x01 ++ [s.engineAddress] ++ natBytes 1 s.engine.code ++ boolByte s.rateStrap

/-- IDENTIFY. -/
def reqIdentify (s : State) (r : Request) : State := s.withLength r 0 (s.placeAnswer r .ok s.identity)
/-- READ_CHANNEL. -/
def reqReadChannel (s : State) (r : Request) : State :=
  s.readOfChannel r (fun c => channelBytes c (s.cfg c).configured (s.chan c))
/-- READ_ACCOUNTS. -/
def reqReadAccounts (s : State) (r : Request) : State := s.readOfChannel r (fun c => accountBytes c (s.chan c).acct)
/-- READ_FAULT. -/
def reqReadFault (s : State) (r : Request) : State := s.readOfChannel r (fun c => faultBytes c (s.chan c).sup.fault)
/-- READ_COUNTERS. -/
def reqReadCounters (s : State) (r : Request) : State := s.withLength r 0 (s.placeAnswer r .ok (counterBytes s.link))
/-- CLEAR_COUNTERS. -/
def reqClearCounters (s : State) (r : Request) : State := s.withLength r 0 (s.zeroCounters.placeAnswer r .ok [])

end Sys2Proof.Machine
end

