-- ==== Sys2Proof/Machine/Management.lean ====
section
/-! DEFINITION. The management unit (Sections 9.1 and 9.2): which row a request belongs to, when its execution is due, and
what the block starts by itself before it takes another event (R63, R158). -/

namespace Sys2Proof.Machine

open Sys2Proof

/-! ## The row of a request -/

/-- The row of a READ_TABLE by its table code (R162). DESIGN CHOICE: without a code it is the undefined row's
(notes/assumptions/8.md). -/
def readRow (args : List Byte) : RequestRow :=
  if args = [] then .readTableUndefinedTable
  else
    match u8At args 0 with
    | 1 => .readTableStep
    | 2 => .readTableProgram
    | 3 => .readTableProfileSeg
    | 4 => .readTableProfile
    | 5 => .readTableLimit
    | 6 => .readTableAccept
    | 7 => .readTableConfig
    | _ => .readTableUndefinedTable

/-- The row of a WRITE_TABLE by its table code (R163). DESIGN CHOICE: without a code it is the undefined row's
(notes/assumptions/8.md). -/
def writeRow (args : List Byte) : RequestRow :=
  if args = [] then .writeTableUndefinedTable
  else
    match u8At args 0 with
    | 1 => .writeTableStep
    | 2 => .writeTableProgram
    | 3 => .writeTableProfileSeg
    | 4 => .writeTableProfile
    | 5 => .writeTableLimit
    | 6 => .writeTableAccept
    | 7 => .writeTableConfig
    | _ => .writeTableUndefinedTable

/-- The row of a CHANNEL_COMMAND by its command code (R165). DESIGN CHOICE: without a code it is the undefined row's
(notes/assumptions/8.md). -/
def commandRow (args : List Byte) : RequestRow :=
  if args.length < 2 then .undefinedChannelCommand
  else
    match u8At args 1 with
    | 1 => .configure
    | 2 => .start
    | 3 => .hold
    | 4 => .resume
    | 5 => .stop
    | 6 => .jump
    | 7 => .clearFault
    | 8 => .clearTotals
    | _ => .undefinedChannelCommand

/-- The row of an ENGINE_COMMAND by its code (R170). DESIGN CHOICE: without a code it is the undefined row's
(notes/assumptions/8.md). -/
def engineRow (args : List Byte) : RequestRow :=
  if args = [] then .undefinedEngineCommand
  else
    match u8At args 0 with
    | 1 => .resetEngine
    | 2 => .clearEstop
    | _ => .undefinedEngineCommand

/-- The row of a request by its request code (Section 9.2, R160). -/
def Request.row (r : Request) : RequestRow :=
  match r.code.toNat with
  | 0x01 => .identify
  | 0x02 => readRow r.args
  | 0x03 => writeRow r.args
  | 0x04 => commandRow r.args
  | 0x05 => .readChannel
  | 0x06 => .readAccounts
  | 0x07 => .readFault
  | 0x08 => .readCounters
  | 0x09 => .clearCounters
  | 0x0A => engineRow r.args
  | _ => .unknownRequest

/-- The execution of a request of a row (R158). -/
def runRow (row : RequestRow) (s : State) (r : Request) : State :=
  match row with
  | .unknownRequest => reqUnknownRequest s r
  | .identify => reqIdentify s r
  | .readTableStep => reqReadTableStep s r
  | .readTableProgram => reqReadTableProgram s r
  | .readTableProfileSeg => reqReadTableProfileSeg s r
  | .readTableProfile => reqReadTableProfile s r
  | .readTableLimit => reqReadTableLimit s r
  | .readTableAccept => reqReadTableAccept s r
  | .readTableConfig => reqReadTableConfig s r
  | .readTableUndefinedTable => reqReadTableUndefinedTable s r
  | .writeTableStep => reqWriteTableStep s r
  | .writeTableProgram => reqWriteTableProgram s r
  | .writeTableProfileSeg => reqWriteTableProfileSeg s r
  | .writeTableProfile => reqWriteTableProfile s r
  | .writeTableLimit => reqWriteTableLimit s r
  | .writeTableAccept => reqWriteTableAccept s r
  | .writeTableConfig => reqWriteTableConfig s r
  | .writeTableUndefinedTable => reqWriteTableUndefinedTable s r
  | .configure => reqConfigure s r
  | .start => reqStart s r
  | .hold => reqHold s r
  | .resume => reqResume s r
  | .stop => reqStop s r
  | .jump => reqJump s r
  | .clearFault => reqClearFault s r
  | .clearTotals => reqClearTotals s r
  | .undefinedChannelCommand => reqUndefinedChannelCommand s r
  | .readChannel => reqReadChannel s r
  | .readAccounts => reqReadAccounts s r
  | .readFault => reqReadFault s r
  | .readCounters => reqReadCounters s r
  | .clearCounters => reqClearCounters s r
  | .resetEngine => reqResetEngine s r
  | .clearEstop => reqClearEstop s r
  | .undefinedEngineCommand => reqUndefinedEngineCommand s r

/-! ## What is due -/

/-- The request whose execution is due (R158, R170): the head of the request queue, while no request is in execution, the
answer queue holds fewer than 2 answers, no answered RESET_ENGINE is waiting to take effect, and the engine is in READY
or ESTOP. -/
def State.dueRequest (s : State) : Option Request :=
  if s.resetN && s.engine != .init && s.job.isNone && !s.resetPending && decide (s.answers.length < Config.answerMax) then
    s.requests.head?
  else none

/-- The head request is executed if it is due. -/
def State.runDue (s : State) : State :=
  match s.dueRequest with
  | some r => runRow r.row s r
  | none => s

/-- The table port starts an access if one is due. -/
def State.portDue (s : State) : State :=
  match s.dueAccess with
  | some .fetch => s.startFetch
  | some .management => s.startAccess
  | none => s

/-- What the block has started by itself before it takes another event: the requests that are due (R158; at most two, as
each places an answer or stays in execution) and then the table access that is due (R63). DEDUCED: that the model starts it
by itself before the next other event (notes/assumptions/4.md). -/
def State.settle (s : State) : State := s.runDue.runDue.portDue

/-- Nothing is due: no request and no table access. -/
def State.quiet (s : State) : Bool := s.dueRequest.isNone && s.dueAccess.isNone

end Sys2Proof.Machine
end

