-- ==== Sys2Proof/Machine/Links.lean ====
section
/-! DEFINITION. The receivers and the routing of frames (Sections 8.2 to 8.4), and the meanings of the rows that end a
reception: UP_FRAME_RECEIVED, DN_FRAME_RECEIVED, FRAMING_ERROR, MALFORMED_HEADER, RECEIVER_ARMED and UP_CRC_ERROR. -/

namespace Sys2Proof.Machine

open Sys2Proof

/-! ## Receivers and link counters -/

/-- A port's receiver (R140). -/
def State.rx (s : State) : Port → RxState
  | .up => s.upRx
  | .dn => s.dnRx

/-- A port's receiver enters a state (R140). -/
def State.setRx (s : State) (p : Port) (r : RxState) : State :=
  match p with
  | .up => { s with upRx := r }
  | .dn => { s with dnRx := r }

/-- FRAMING of a port increases by 1 (R143). -/
def LinkCounters.framing (l : LinkCounters) : Port → LinkCounters
  | .up => { l with upFraming := bump l.upFraming }
  | .dn => { l with dnFraming := bump l.dnFraming }

/-- CRC of a port increases by 1 (R143). -/
def LinkCounters.crc (l : LinkCounters) : Port → LinkCounters
  | .up => { l with upCrc := bump l.upCrc }
  | .dn => { l with dnCrc := bump l.dnCrc }

/-- MALFORMED of a port increases by 1 (R143). -/
def LinkCounters.malformed (l : LinkCounters) : Port → LinkCounters
  | .up => { l with upMalformed := bump l.upMalformed }
  | .dn => { l with dnMalformed := bump l.dnMalformed }

/-- Counting in the link counters. -/
def State.countLink (s : State) (f : LinkCounters → LinkCounters) : State := { s with link := f s.link }

/-- A 0 on the line of a receiver in HUNT (R140): the first one of the HUNT period is counted, unless a framing error or a
malformed header began the period. -/
def State.strayZero (s : State) (p : Port) : State :=
  match s.rx p with
  | .hunt true => (s.countLink (fun l => l.framing p)).setRx p (.hunt false)
  | .hunt false => s
  | .armed => s
  | .receiving => s

/-- Something that ends a reception: a receiver in HUNT takes no frame and sees only a stray 0 (R140). DEDUCED: receptions are
whole, not bit by bit (notes/assumptions/7.md). -/
def State.reception (s : State) (p : Port) (f : State → State) : State :=
  match s.rx p with
  | .hunt _ => s.strayZero p
  | .armed => f s
  | .receiving => f s

/-- A header found malformed (R141). -/
def State.malformedAt (s : State) (p : Port) : State :=
  (s.countLink (fun l => l.malformed p)).setRx p (.hunt false)

/-- A completed frame with a CRC error (R142). -/
def State.crcErrorAt (s : State) (p : Port) : State := (s.countLink (fun l => l.crc p)).setRx p (.hunt true)

/-! ## Routing -/

/-- A frame joins the U→D relay queue, or is counted when the queue is full (R145, R147). -/
def State.relayDownJoin (s : State) (f : Frame) : State :=
  if s.relayDown.length < Config.relayDownMax then { s with relayDown := s.relayDown ++ [f] }
  else s.countLink (fun l => { l with relayDropDown := bump l.relayDropDown })

/-- A frame joins the D→U relay queue, or is counted when the queue is full (R146, R147). -/
def State.relayUpJoin (s : State) (f : Frame) : State :=
  if s.relayUp.length < Config.relayUpMax then { s with relayUp := s.relayUp ++ [f] }
  else s.countLink (fun l => { l with relayDropUp := bump l.relayDropUp })

/-- A management request for the engine (R145, R157). -/
def State.routeRequest (s : State) (payload : List Byte) : State :=
  match payload with
  | tag :: code :: args =>
    if s.engine ≠ .init ∧ s.requests.length < Config.requestMax then
      { s with requests := s.requests ++ [{ tag := tag, code := code, args := args }] }
    else s.countLink (fun l => { l with mgmtDrop := bump l.mgmtDrop })
  | [_] => s.countLink (fun l => l.malformed .up)
  | [] => s.countLink (fun l => l.malformed .up)

/-- Routing of a frame at UP (R145). -/
def State.routeUp (s : State) (f : Frame) : State :=
  match frameKind f.byte0 with
  | .mgmtReq => if f.addr = s.engineAddress then s.routeRequest f.payload else s.relayDownJoin f
  | .mgmtAns | .report =>
    if f.addr = s.engineAddress then s.countLink (fun l => l.malformed .up) else s.relayDownJoin f
  | .sample | .setpoint | .transit => s.relayDownJoin f

/-- Routing of a frame at DN (R4, R146). -/
def State.routeDn (s : State) (f : Frame) : State :=
  match frameKind f.byte0 with
  | .sample =>
    match (if s.engine = .init then none else s.claim f.addr) with
    | some e => s.useClaimed e (readSample f.payload)
    | none => s.relayUpJoin f
  | .setpoint | .mgmtReq | .mgmtAns | .report | .transit => s.relayUpJoin f

/-- A frame at the end of its reception (R141, R142): judged at its header, then at its CRC, then routed. -/
def State.frameAt (s : State) (p : Port) (f : Frame) (route : State → Frame → State) : State :=
  if headerMalformed f.byte0 f.payload.length then s.malformedAt p
  else if crcOk f then route (s.setRx p (.hunt true)) f
  else s.crcErrorAt p

/-! ## Meanings -/

/-- An event that the engine takes unless RESET_N is low (R183); what was due is started first (R63, R158; DEDUCED,
notes/assumptions/4.md and 12.md). -/
def State.event (s : State) (f : State → State) : State := if s.inReset then s else f s.settle

/-- UP_FRAME_RECEIVED. -/
def execUpFrameReceived (f : Frame) (s : State) : Host.Outcome State Fault Refusal :=
  .next (s.event (fun s => s.reception .up (fun s => s.frameAt .up f State.routeUp)))

/-- DN_FRAME_RECEIVED. -/
def execDnFrameReceived (f : Frame) (s : State) : Host.Outcome State Fault Refusal :=
  .next (s.event (fun s => s.reception .dn (fun s => s.frameAt .dn f State.routeDn)))

/-- FRAMING_ERROR (R140). -/
def execFramingError (p : Port) (cause : FramingCause) (s : State) : Host.Outcome State Fault Refusal :=
  .next (s.event (fun s =>
    match cause with
    | .stopBit => s.reception p (fun s => (s.countLink (fun l => l.framing p)).setRx p (.hunt false))
    | .truncated => s.reception p (fun s => (s.countLink (fun l => l.framing p)).setRx p .armed)
    | .strayZero => s.strayZero p))

/-- MALFORMED_HEADER (R141). -/
def execMalformedHeader (p : Port) (byte0 len : Byte) (s : State) : Host.Outcome State Fault Refusal :=
  .next (s.event (fun s =>
    if headerMalformed byte0 len.toNat then s.reception p (fun s => s.malformedAt p) else s))

/-- RECEIVER_ARMED (R140). -/
def execReceiverArmed (p : Port) (s : State) : Host.Outcome State Fault Refusal :=
  .next (s.event (fun s =>
    match s.rx p with
    | .hunt _ => s.setRx p .armed
    | .armed => s
    | .receiving => s))

/-- UP_CRC_ERROR (R142). -/
def execUpCrcError (s : State) : Host.Outcome State Fault Refusal :=
  .next (s.event (fun s => s.reception .up (fun s => s.crcErrorAt .up)))

end Sys2Proof.Machine
end

