-- ==== Sys2Proof/Machine/Lines.lean ====
section
/-! DEFINITION. The meanings of the rows of engine control and the discrete lines (Section 11): TABLE_CLEAR_COMPLETE,
RESET_N_FALL, RESET_N_RELEASE, ESTOP_N_FALL, ESTOP_N_RISE and MAINT_CHANGE. -/

namespace Sys2Proof.Machine

open Sys2Proof

/-- TABLE_CLEAR_COMPLETE (R183). -/
def execTableClearComplete (s : State) : Host.Outcome State Fault Refusal := .next (s.event State.clearTables)

/-- RESET_N_FALL (R183). -/
def execResetNFall (s : State) : Host.Outcome State Fault Refusal :=
  .next (if s.inReset then s else s.fallReset)

/-- RESET_N_RELEASE, with the levels of the ADDR and RATE straps (R183). -/
def execResetNRelease (addr : BitVec 4) (rate : Bool) (s : State) : Host.Outcome State Fault Refusal :=
  .next (if s.inReset then s.powerOn addr rate else s)

/-- ESTOP_N_FALL (R186). While RESET_N is low only the level of the line changes. -/
def execEstopNFall (s : State) : Host.Outcome State Fault Refusal :=
  .next (
    if s.inReset then { s with estopN := false }
    else if s.settle.estopN then s.settle.fallEstop
    else s.settle)

/-- ESTOP_N_RISE changes nothing but the level of the line (R187). -/
def execEstopNRise (s : State) : Host.Outcome State Fault Refusal :=
  .next (if s.inReset then { s with estopN := true } else { s.settle with estopN := true })

/-- MAINT_CHANGE to a level (R103). -/
def execMaintChange (level : Bool) (s : State) : Host.Outcome State Fault Refusal :=
  .next (if s.inReset then { s with maint := level } else { s.settle with maint := level })

end Sys2Proof.Machine
end

