-- ==== Sys2Proof/Machine/RequestRows.lean ====
section
/-! DEFINITION. The meanings of the rows that execute a management request (R158): the request that is due is executed
when it belongs to the row. When another request or none is due, what is due is started and the row has nothing to
execute. -/

namespace Sys2Proof.Machine

open Sys2Proof

/-- The execution of a row (R158): `f` is the row's own execution of a request. -/
def execRow (row : RequestRow) (f : State → Request → State) (s : State) : Host.Outcome State Fault Refusal :=
  match s.dueRequest with
  | some r => if r.row = row then .next (f s r) else .next s.settle
  | none => .next s.settle

/-- UNKNOWN_REQUEST. -/
def execUnknownRequest (s : State) : Host.Outcome State Fault Refusal := execRow .unknownRequest reqUnknownRequest s

/-- IDENTIFY. -/
def execIdentify (s : State) : Host.Outcome State Fault Refusal := execRow .identify reqIdentify s

/-- READ_TABLE_STEP. -/
def execReadTableStep (s : State) : Host.Outcome State Fault Refusal := execRow .readTableStep reqReadTableStep s

/-- READ_TABLE_PROGRAM. -/
def execReadTableProgram (s : State) : Host.Outcome State Fault Refusal := execRow .readTableProgram reqReadTableProgram s

/-- READ_TABLE_PROFILE_SEG. -/
def execReadTableProfileSeg (s : State) : Host.Outcome State Fault Refusal := execRow .readTableProfileSeg reqReadTableProfileSeg s

/-- READ_TABLE_PROFILE. -/
def execReadTableProfile (s : State) : Host.Outcome State Fault Refusal := execRow .readTableProfile reqReadTableProfile s

/-- READ_TABLE_LIMIT. -/
def execReadTableLimit (s : State) : Host.Outcome State Fault Refusal := execRow .readTableLimit reqReadTableLimit s

/-- READ_TABLE_ACCEPT. -/
def execReadTableAccept (s : State) : Host.Outcome State Fault Refusal := execRow .readTableAccept reqReadTableAccept s

/-- READ_TABLE_CONFIG. -/
def execReadTableConfig (s : State) : Host.Outcome State Fault Refusal := execRow .readTableConfig reqReadTableConfig s

/-- WRITE_TABLE_STEP. -/
def execWriteTableStep (s : State) : Host.Outcome State Fault Refusal := execRow .writeTableStep reqWriteTableStep s

/-- WRITE_TABLE_PROGRAM. -/
def execWriteTableProgram (s : State) : Host.Outcome State Fault Refusal := execRow .writeTableProgram reqWriteTableProgram s

/-- WRITE_TABLE_PROFILE_SEG. -/
def execWriteTableProfileSeg (s : State) : Host.Outcome State Fault Refusal := execRow .writeTableProfileSeg reqWriteTableProfileSeg s

/-- WRITE_TABLE_PROFILE. -/
def execWriteTableProfile (s : State) : Host.Outcome State Fault Refusal := execRow .writeTableProfile reqWriteTableProfile s

/-- WRITE_TABLE_LIMIT. -/
def execWriteTableLimit (s : State) : Host.Outcome State Fault Refusal := execRow .writeTableLimit reqWriteTableLimit s

/-- WRITE_TABLE_ACCEPT. -/
def execWriteTableAccept (s : State) : Host.Outcome State Fault Refusal := execRow .writeTableAccept reqWriteTableAccept s

/-- WRITE_TABLE_CONFIG. -/
def execWriteTableConfig (s : State) : Host.Outcome State Fault Refusal := execRow .writeTableConfig reqWriteTableConfig s

/-- CONFIGURE. -/
def execConfigure (s : State) : Host.Outcome State Fault Refusal := execRow .configure reqConfigure s

/-- START. -/
def execStart (s : State) : Host.Outcome State Fault Refusal := execRow .start reqStart s

/-- HOLD. -/
def execHold (s : State) : Host.Outcome State Fault Refusal := execRow .hold reqHold s

/-- RESUME. -/
def execResume (s : State) : Host.Outcome State Fault Refusal := execRow .resume reqResume s

/-- STOP. -/
def execStop (s : State) : Host.Outcome State Fault Refusal := execRow .stop reqStop s

/-- JUMP. -/
def execJump (s : State) : Host.Outcome State Fault Refusal := execRow .jump reqJump s

/-- CLEAR_FAULT. -/
def execClearFault (s : State) : Host.Outcome State Fault Refusal := execRow .clearFault reqClearFault s

/-- CLEAR_TOTALS. -/
def execClearTotals (s : State) : Host.Outcome State Fault Refusal := execRow .clearTotals reqClearTotals s

/-- UNDEFINED_CHANNEL_COMMAND. -/
def execUndefinedChannelCommand (s : State) : Host.Outcome State Fault Refusal := execRow .undefinedChannelCommand reqUndefinedChannelCommand s

/-- READ_CHANNEL. -/
def execReadChannel (s : State) : Host.Outcome State Fault Refusal := execRow .readChannel reqReadChannel s

/-- READ_ACCOUNTS. -/
def execReadAccounts (s : State) : Host.Outcome State Fault Refusal := execRow .readAccounts reqReadAccounts s

/-- READ_FAULT. -/
def execReadFault (s : State) : Host.Outcome State Fault Refusal := execRow .readFault reqReadFault s

/-- READ_COUNTERS. -/
def execReadCounters (s : State) : Host.Outcome State Fault Refusal := execRow .readCounters reqReadCounters s

/-- CLEAR_COUNTERS. -/
def execClearCounters (s : State) : Host.Outcome State Fault Refusal := execRow .clearCounters reqClearCounters s

/-- RESET_ENGINE. -/
def execResetEngine (s : State) : Host.Outcome State Fault Refusal := execRow .resetEngine reqResetEngine s

/-- CLEAR_ESTOP. -/
def execClearEstop (s : State) : Host.Outcome State Fault Refusal := execRow .clearEstop reqClearEstop s

/-- UNDEFINED_ENGINE_COMMAND. -/
def execUndefinedEngineCommand (s : State) : Host.Outcome State Fault Refusal := execRow .undefinedEngineCommand reqUndefinedEngineCommand s

/-- READ_TABLE_UNDEFINED_TABLE. -/
def execReadTableUndefinedTable (s : State) : Host.Outcome State Fault Refusal := execRow .readTableUndefinedTable reqReadTableUndefinedTable s

/-- WRITE_TABLE_UNDEFINED_TABLE. -/
def execWriteTableUndefinedTable (s : State) : Host.Outcome State Fault Refusal := execRow .writeTableUndefinedTable reqWriteTableUndefinedTable s

end Sys2Proof.Machine
end

