-- ==== Sys2Proof/Machine/TablePort.lean ====
section
/-! DEFINITION. The meanings of the four rows of the table port (R52, R63 to R65). A start row starts the access that is
due when it is of its kind; a completion row completes the access in progress when it is of its kind. -/

namespace Sys2Proof.Machine

open Sys2Proof

/-- The requests that are due are executed before the port chooses (R63, R158). -/
def State.settleRequests (s : State) : State := s.runDue.runDue

/-- FETCH_START (R64). -/
def execFetchStart (s : State) : Host.Outcome State Fault Refusal :=
  .next (if s.inReset then s
    else
      match s.settleRequests.dueAccess with
      | some .fetch => s.settleRequests.startFetch
      | some .management => s.settle
      | none => s.settle)

/-- FETCH_COMPLETE (R64, R65). -/
def execFetchComplete (s : State) : Host.Outcome State Fault Refusal := .next (s.event State.completeFetch)

/-- MANAGEMENT_ACCESS_START (R63). -/
def execManagementAccessStart (s : State) : Host.Outcome State Fault Refusal :=
  .next (if s.inReset then s
    else
      match s.settleRequests.dueAccess with
      | some .management => s.settleRequests.startAccess
      | some .fetch => s.settle
      | none => s.settle)

/-- MANAGEMENT_ACCESS_COMPLETE (R52, R55). -/
def execManagementAccessComplete (s : State) : Host.Outcome State Fault Refusal := .next (s.event State.completeAccess)

end Sys2Proof.Machine
end

