-- ==== Sys2Proof/Machine/Timers.lean ====
section
/-! DEFINITION. The time base and the three timers of a channel (R12, R13, R18, R96, R97, R184), with the meanings of
SILENCE_EXPIRY, AUX_FRESHNESS_EXPIRY, REFRESH_EXPIRY and TIME_BASE_TICK. -/

namespace Sys2Proof.Machine

open Sys2Proof

/-- A channel's silence timer expires when the time base reaches its expiry tick (R12, R13, R115). DESIGN CHOICE: an expiry
given on another tick has no effect (notes/assumptions/3.md). -/
def State.silenceExpire (s : State) (c : ChanId) : State :=
  if (s.chan c).track.silence = some s.timeBase then
    (s.modTrack c (fun t => { t with reference := none, lastArrival := none, lastPrimary := none, silence := none }))
      |>.silenceEvent c
  else s

/-- A channel's AUX freshness timer expires (R18). -/
def State.auxExpire (s : State) (c : ChanId) : State :=
  if (s.chan c).track.auxTimer = some s.timeBase then
    s.modTrack c (fun t => { t with auxFresh := false, auxTimer := none })
  else s

/-- The slot is empty: neither a pending frame nor a frame in transmission (R92). -/
def Setpoint.isEmpty (sp : Setpoint) : Bool := sp.pending.isNone && sp.inTx.isNone

/-- A channel's refresh timer expires (R97): the timer stops, and with the slot empty the last transmitted frame is
offered again with the repeat mark. -/
def State.refreshExpire (s : State) (c : ChanId) : State :=
  if (s.chan c).sp.refresh = some s.timeBase then
    let s1 := s.modSp c (fun sp => { sp with refresh := none })
    match (s.chan c).sp.lastTx with
    | some f =>
      if (s.chan c).sp.isEmpty && !(s.cfg c).shadow then
        (s1.modSp c (fun sp => { sp with repeats := bump sp.repeats })).offerFrame c f.command f.current true
      else s1
    | none => s1
  else s

/-- The expiries of one channel that fall on the present tick and have not been taken yet. -/
def State.expireDue (s : State) (c : ChanId) : State := ((s.silenceExpire c).auxExpire c).refreshExpire c

/-- The last tick at which the table clear can complete (R183). -/
def State.clearDue (s : State) : State :=
  if s.timeBase = BitVec.ofNat 32 Config.clearTicks then s.clearTables else s

/-- The end of a tick (R12, R18, R96, R183, R184): what must fall on it and has not been taken yet is taken, then the time
base counts up by one. DEDUCED: the order in which it is taken, and that the tick takes it (notes/assumptions/5.md). -/
def State.tick (s : State) : State :=
  { (s.clearDue.forChannels State.expireDue) with timeBase := s.timeBase + 1 }

/-- SILENCE_EXPIRY. -/
def execSilenceExpiry (c : ChanId) (s : State) : Host.Outcome State Fault Refusal :=
  .next (s.event (fun s => s.silenceExpire c))

/-- AUX_FRESHNESS_EXPIRY. -/
def execAuxFreshnessExpiry (c : ChanId) (s : State) : Host.Outcome State Fault Refusal :=
  .next (s.event (fun s => s.auxExpire c))

/-- REFRESH_EXPIRY. -/
def execRefreshExpiry (c : ChanId) (s : State) : Host.Outcome State Fault Refusal :=
  .next (s.event (fun s => s.refreshExpire c))

/-- TIME_BASE_TICK; while RESET_N is low the time base is held at 0 (R183). -/
def execTimeBaseTick (s : State) : Host.Outcome State Fault Refusal := .next (s.event State.tick)

end Sys2Proof.Machine
end

