-- ==== Sys2Proof/Machine/Transmitters.lean ====
section
/-! DEFINITION. The two transmitters and their arbiters (Sections 8.5 to 8.7, R94, R101), with the meanings of
DN_TRANSMIT_START, DN_TRANSMIT_COMPLETE, UP_TRANSMIT_START and UP_TRANSMIT_COMPLETE. -/

namespace Sys2Proof.Machine

open Sys2Proof

/-! ## DN -/

/-- The older of two pending slots by their pending-since order (R92, R149). -/
def State.older (s : State) (best : Option ChanId) (c : ChanId) : Option ChanId :=
  match best with
  | none => some c
  | some b => if (s.chan c).sp.since.getD 0 < (s.chan b).sp.since.getD 0 then some c else some b

/-- The oldest pending frame of one kind among all setpoint slots (R149). -/
def State.oldest (s : State) (p : SpFrame → Bool) : Option ChanId :=
  (allChannels.filter (fun c => (s.chan c).sp.pending.any p)).foldl s.older none

/-- The frame is an OPEN. -/
def SpFrame.isOpen (f : SpFrame) : Bool := f.command == .openPath

/-- The slot gives its pending frame to the transmitter, which takes the next seq (R94, R95). -/
def Setpoint.startTx (sp : Setpoint) (f : SpFrame) : Setpoint :=
  { sp with pending := none, inTx := some (f, sp.nextSeq), nextSeq := sp.nextSeq + 1 }

/-- A setpoint transmission of channel `c` starts (R94, R150, R153). -/
def State.startSetpoint (s : State) (c : ChanId) : State :=
  match (s.chan c).sp.pending with
  | none => s
  | some f =>
    { s with
      dnTx := some { frame := setpointFrame f (s.chan c).sp.nextSeq, channel := some c }
      relayWait := if s.relayDown.isEmpty then s.relayWait else min Config.relayWaitMax (s.relayWait + 1)
      channels := s.channels.set c.val { s.chan c with sp := (s.chan c).sp.startTx f } }

/-- The head of the U→D relay queue starts (R149, R150). -/
def State.startRelayDown (s : State) : State :=
  match s.relayDown with
  | [] => s
  | f :: rest => { s with relayDown := rest, relayWait := 0, dnTx := some { frame := f, channel := none } }

/-- What the DN arbiter chooses (R149): a channel's slot, or none for the relay queue. -/
def State.dnChoice (s : State) : Option ChanId :=
  match s.oldest SpFrame.isOpen with
  | some c => some c
  | none =>
    if Config.relayWaitMax ≤ s.relayWait && !s.relayDown.isEmpty then none
    else s.oldest (fun f => !f.isOpen)

/-- The free DN transmitter takes its next frame (R148, R149). DESIGN CHOICE: the moment is the sender's
(notes/assumptions/6.md). -/
def State.startDn (s : State) : State :=
  match s.dnTx with
  | some _ => s
  | none =>
    match s.dnChoice with
    | some c => s.startSetpoint c
    | none => s.startRelayDown

/-- A channel's slot when the transmission of its frame completes (R94): the refresh timer is started again unless the
channel is OFF or in shadow mode. -/
def Setpoint.completeTx (sp : Setpoint) (f : SpFrame) (restart : Bool) (expiry : Tick) : Setpoint :=
  { sp with
    inTx := none
    lastTx := some { stage := f.stage, command := f.command, current := f.current }
    refresh := if restart then some expiry else sp.refresh }

/-- The DN transmission completes (R94, R101, R148, R185). -/
def State.completeDn (s : State) : State :=
  match s.dnTx with
  | none => s
  | some t =>
    let s1 := { s with dnTx := none }
    match t.channel with
    | none => s1
    | some c =>
      match (s.chan c).sp.inTx with
      | none => s1
      | some (f, _) =>
        if f.final then (s1.modSp c (fun _ => Setpoint.reset)).endInit
        else
          s1.modSp c (fun sp => sp.completeTx f ((s.chan c).state != .off && !(s.cfg c).shadow)
            (s.tickIn (4 * (s.cfg c).period)))

/-! ## UP -/

/-- The head record of the report queue starts, built into a REPORT frame (R151, R179). -/
def State.startReport (s : State) : State :=
  match s.reports with
  | [] => s
  | r :: rest =>
    { s with reports := rest, upServed := .report, upTx := some { frame := reportFrame s.engineAddress r, resets := false } }

/-- The head of the D→U relay queue starts (R151). -/
def State.startRelayUp (s : State) : State :=
  match s.relayUp with
  | [] => s
  | f :: rest => { s with relayUp := rest, upServed := .relay, upTx := some { frame := f, resets := false } }

/-- The free UP transmitter takes its next frame (R148, R151): the head answer, or of the report queue and the D→U queue
the one not served last. -/
def State.startUp (s : State) : State :=
  match s.upTx with
  | some _ => s
  | none =>
    match s.answers with
    | a :: rest =>
      { s with answers := rest, upTx := some { frame := answerFrame s.engineAddress a, resets := a.resets } }
    | [] =>
      match s.reports, s.relayUp with
      | [], _ => s.startRelayUp
      | _ :: _, [] => s.startReport
      | _ :: _, _ :: _ =>
        match s.upServed with
        | .relay => s.startReport
        | .report => s.startRelayUp

/-- The UP transmission completes (R148); at the completion of its answer, RESET_ENGINE takes effect (R170, R185). -/
def State.completeUp (s : State) : State :=
  match s.upTx with
  | none => s
  | some t => if t.resets then ({ s with upTx := none }).engineReset else { s with upTx := none }

/-! ## Meanings -/

/-- DN_TRANSMIT_START. -/
def execDnTransmitStart (s : State) : Host.Outcome State Fault Refusal := .next (s.event State.startDn)

/-- DN_TRANSMIT_COMPLETE. -/
def execDnTransmitComplete (s : State) : Host.Outcome State Fault Refusal := .next (s.event State.completeDn)

/-- UP_TRANSMIT_START. -/
def execUpTransmitStart (s : State) : Host.Outcome State Fault Refusal := .next (s.event State.startUp)

/-- UP_TRANSMIT_COMPLETE. -/
def execUpTransmitComplete (s : State) : Host.Outcome State Fault Refusal := .next (s.event State.completeUp)

end Sys2Proof.Machine
end

