-- ==== Sys2Proof/Machine/Dispatch.lean ====
section
/-! DEFINITION. One arm for each command. -/

namespace Sys2Proof.Machine

open Sys2Proof

def exec (i : Instr) (s : State) : Host.Outcome State Fault Refusal :=
  match i with
  | .upFrameReceived f => Sys2Proof.Machine.execUpFrameReceived f s
  | .dnFrameReceived f => Sys2Proof.Machine.execDnFrameReceived f s
  | .framingError p cause => Sys2Proof.Machine.execFramingError p cause s
  | .malformedHeader p byte0 len => Sys2Proof.Machine.execMalformedHeader p byte0 len s
  | .silenceExpiry c => Sys2Proof.Machine.execSilenceExpiry c s
  | .auxFreshnessExpiry c => Sys2Proof.Machine.execAuxFreshnessExpiry c s
  | .refreshExpiry c => Sys2Proof.Machine.execRefreshExpiry c s
  | .fetchStart => Sys2Proof.Machine.execFetchStart s
  | .fetchComplete => Sys2Proof.Machine.execFetchComplete s
  | .managementAccessStart => Sys2Proof.Machine.execManagementAccessStart s
  | .managementAccessComplete => Sys2Proof.Machine.execManagementAccessComplete s
  | .dnTransmitStart => Sys2Proof.Machine.execDnTransmitStart s
  | .dnTransmitComplete => Sys2Proof.Machine.execDnTransmitComplete s
  | .upTransmitStart => Sys2Proof.Machine.execUpTransmitStart s
  | .upTransmitComplete => Sys2Proof.Machine.execUpTransmitComplete s
  | .tableClearComplete => Sys2Proof.Machine.execTableClearComplete s
  | .resetNFall => Sys2Proof.Machine.execResetNFall s
  | .resetNRelease addr rate => Sys2Proof.Machine.execResetNRelease addr rate s
  | .estopNFall => Sys2Proof.Machine.execEstopNFall s
  | .estopNRise => Sys2Proof.Machine.execEstopNRise s
  | .maintChange level => Sys2Proof.Machine.execMaintChange level s
  | .unknownRequest => Sys2Proof.Machine.execUnknownRequest s
  | .identify => Sys2Proof.Machine.execIdentify s
  | .readTableStep => Sys2Proof.Machine.execReadTableStep s
  | .readTableProgram => Sys2Proof.Machine.execReadTableProgram s
  | .readTableProfileSeg => Sys2Proof.Machine.execReadTableProfileSeg s
  | .readTableProfile => Sys2Proof.Machine.execReadTableProfile s
  | .readTableLimit => Sys2Proof.Machine.execReadTableLimit s
  | .readTableAccept => Sys2Proof.Machine.execReadTableAccept s
  | .readTableConfig => Sys2Proof.Machine.execReadTableConfig s
  | .writeTableStep => Sys2Proof.Machine.execWriteTableStep s
  | .writeTableProgram => Sys2Proof.Machine.execWriteTableProgram s
  | .writeTableProfileSeg => Sys2Proof.Machine.execWriteTableProfileSeg s
  | .writeTableProfile => Sys2Proof.Machine.execWriteTableProfile s
  | .writeTableLimit => Sys2Proof.Machine.execWriteTableLimit s
  | .writeTableAccept => Sys2Proof.Machine.execWriteTableAccept s
  | .writeTableConfig => Sys2Proof.Machine.execWriteTableConfig s
  | .configure => Sys2Proof.Machine.execConfigure s
  | .start => Sys2Proof.Machine.execStart s
  | .hold => Sys2Proof.Machine.execHold s
  | .resume => Sys2Proof.Machine.execResume s
  | .stop => Sys2Proof.Machine.execStop s
  | .jump => Sys2Proof.Machine.execJump s
  | .clearFault => Sys2Proof.Machine.execClearFault s
  | .clearTotals => Sys2Proof.Machine.execClearTotals s
  | .undefinedChannelCommand => Sys2Proof.Machine.execUndefinedChannelCommand s
  | .readChannel => Sys2Proof.Machine.execReadChannel s
  | .readAccounts => Sys2Proof.Machine.execReadAccounts s
  | .readFault => Sys2Proof.Machine.execReadFault s
  | .readCounters => Sys2Proof.Machine.execReadCounters s
  | .clearCounters => Sys2Proof.Machine.execClearCounters s
  | .resetEngine => Sys2Proof.Machine.execResetEngine s
  | .clearEstop => Sys2Proof.Machine.execClearEstop s
  | .undefinedEngineCommand => Sys2Proof.Machine.execUndefinedEngineCommand s
  | .receiverArmed p => Sys2Proof.Machine.execReceiverArmed p s
  | .upCrcError => Sys2Proof.Machine.execUpCrcError s
  | .timeBaseTick => Sys2Proof.Machine.execTimeBaseTick s
  | .readTableUndefinedTable => Sys2Proof.Machine.execReadTableUndefinedTable s
  | .writeTableUndefinedTable => Sys2Proof.Machine.execWriteTableUndefinedTable s

end Sys2Proof.Machine
end

