-- ==== Sys2Proof/WellFormed.lean ====
section
/-! DEFINITION. Which commands stand for an event that the manual describes: a frame that completes reception has
passed the header check (R141), and a header found malformed fails it. Every other operand is well formed by its type. -/

namespace Sys2Proof

/-- A frame whose reception can complete: its header passes the check of R141. -/
def Frame.wf (f : Frame) : Bool := !headerMalformed f.byte0 f.payload.length

/-- The well-formed commands. -/
def Instr.wf : Instr → Bool
  | .upFrameReceived f => f.wf
  | .dnFrameReceived f => f.wf
  | .malformedHeader _ byte0 len => headerMalformed byte0 len.toNat
  | .framingError _ _ | .silenceExpiry _ | .auxFreshnessExpiry _ | .refreshExpiry _
  | .fetchStart | .fetchComplete | .managementAccessStart | .managementAccessComplete
  | .dnTransmitStart | .dnTransmitComplete | .upTransmitStart | .upTransmitComplete
  | .tableClearComplete | .resetNFall | .resetNRelease _ _ | .estopNFall | .estopNRise | .maintChange _
  | .unknownRequest | .identify | .readTableStep | .readTableProgram | .readTableProfileSeg | .readTableProfile
  | .readTableLimit | .readTableAccept | .readTableConfig | .writeTableStep | .writeTableProgram
  | .writeTableProfileSeg | .writeTableProfile | .writeTableLimit | .writeTableAccept | .writeTableConfig
  | .configure | .start | .hold | .resume | .stop | .jump | .clearFault | .clearTotals | .undefinedChannelCommand
  | .readChannel | .readAccounts | .readFault | .readCounters | .clearCounters | .resetEngine | .clearEstop
  | .undefinedEngineCommand | .receiverArmed _ | .upCrcError | .timeBaseTick | .readTableUndefinedTable
  | .writeTableUndefinedTable => true

end Sys2Proof
end

