-- ==== Sys2Proof/Safety.lean ====
section
/-! DEFINITION. What a safe state of the block is: the properties that the manual promises of every state the engine can
be in, each as a predicate of one state. Every one of them holds at State.reset and is meant to be kept by every command;
the statements for the provers say so. The last part holds the words those statements are written in: when a command is
taken at once, what an answered request leaves, and which records are well formed. -/

namespace Sys2Proof.Machine

open Sys2Proof

/-! ## Queues (R147, R150, R157, R159, R177) -/

/-- How many measurement records a report queue holds (R177). -/
def dataRecords (l : List Record) : Nat := (l.filter (fun r => r.body.isData)).length

/-- Every queue is within its capacity: 8 and 16 relay frames, 4 requests, 2 answers, 128 report records of which 120 are
measurement records; the drop count is in its range. -/
abbrev State.queuesBounded (s : State) : Prop :=
  s.relayDown.length ≤ 8 ∧ s.relayUp.length ≤ 16 ∧ s.requests.length ≤ 4 ∧ s.answers.length ≤ 2 ∧
    s.reports.length ≤ 128 ∧ dataRecords s.reports ≤ 120 ∧ s.dropCount ≤ 65535

/-- The relay wait count is in 0..8 and is 0 whenever the U→D relay queue is empty (R150). -/
abbrev State.relayWaitOk (s : State) : Prop := s.relayWait ≤ 8 ∧ (s.relayDown = [] → s.relayWait = 0)

/-- The management unit (R157 to R159, R170): a table request in execution is the head of the request queue and finds room for
its answer; nothing is in execution while an answered RESET_ENGINE waits; a management access belongs to a table request in
execution and is the access that the port started last (R63); the answer whose transmission resets the engine is there only
while that reset is pending. -/
abbrev State.managementOk (s : State) : Prop :=
  (s.job.isSome → s.requests ≠ [] ∧ s.answers.length < 2) ∧
    (s.resetPending = true → s.job = none) ∧
    (s.port = .access → s.job.isSome ∧ s.portLast = .management) ∧
    (s.answers.any (fun a => a.resets) = true → s.resetPending = true) ∧
    (s.upTx.any (fun t => t.resets) = true → s.resetPending = true)

/-! ## Transitions in flight (R57, R59 to R64, R78, R131) -/

/-- The table port is fetching for a transition of channel `c` that is still in flight. -/
abbrev PortState.fetchesFor (p : PortState) (c : ChanId) : Bool :=
  match p with
  | .fetch d _ live => live && d == c
  | .free => false
  | .access => false

/-- The step fetch queue holds each channel at most once, a channel that waits there is not being fetched for, and the
channels that wait or are fetched for are exactly those with a transition in flight (R62, R64). -/
abbrev State.fetchesOk (s : State) : Prop :=
  s.fetchQueue.Nodup ∧
    ∀ c : ChanId,
      ((s.chan c).seq.inFlight = true ↔ c ∈ s.fetchQueue ∨ s.port.fetchesFor c = true) ∧
        ¬ (c ∈ s.fetchQueue ∧ s.port.fetchesFor c = true)

/-- The index of the position is below the limit of the descriptor cache. -/
abbrev Sequencing.indexInside (q : Sequencing) : Bool := q.cache.any (fun k => decide (q.index < k.limit))

/-- A fetch that reads a record for a transition in flight was started at the channel's position, which its cache admits
(R64). -/
abbrev State.portOk (s : State) : Prop :=
  (match s.port with
   | .fetch c (.read _) true => (s.chan c).seq.indexInside
   | .fetch _ _ _ => true
   | .free => true
   | .access => true) = true

/-- What a channel holds for a transition is there only while one is in flight, and a transition is in flight only in
RUNNING (R78, R126, R131). -/
abbrev Channel.flightOk (ch : Channel) : Prop :=
  (ch.seq.inFlight = true → ch.state = .running ∧ ch.seq.stepCopy = none) ∧
    (ch.seq.inFlight = false → ch.seq.holdPending = none ∧ ch.seq.pendingEval = none ∧ ch.seq.chain = 0)

/-- A RUNNING channel with no transition in flight executes a step (R59); only a RUNNING or HELD channel has a step copy;
and the index of the step it holds is below the limit of its cache (R59). -/
abbrev Channel.stepOk (ch : Channel) : Prop :=
  (ch.state = .running → ch.seq.inFlight = false → ch.seq.stepCopy.isSome = true) ∧
    (ch.seq.stepCopy.isSome = true → (ch.state = .running ∨ ch.state = .held) ∧ ch.seq.indexInside = true)

/-- The stack holds at most 8 frames and a transition has fetched at most 16 records (R60, R64). -/
abbrev Channel.stackOk (ch : Channel) : Prop := ch.seq.stack.length ≤ 8 ∧ ch.seq.chain ≤ 16

/-- A HELD channel has a resume point, and a held step is there exactly for resume point STEP (R84). -/
abbrev Channel.resumeOk (ch : Channel) : Prop :=
  (ch.state = .held → ch.seq.resume ≠ .none ∧ (ch.seq.resume = .step ↔ ch.seq.stepCopy.isSome)) ∧
    (ch.state = .isolated → ch.seq.resume = .transition)

/-- What holds of every transition and every step: the four properties above for the channels, the fetch queue and the
port. -/
abbrev State.flightsOk (s : State) : Prop :=
  s.fetchesOk ∧ s.portOk ∧
    ∀ c : ChanId, (s.chan c).flightOk ∧ (s.chan c).stepOk ∧ (s.chan c).stackOk ∧ (s.chan c).resumeOk

/-! ## Setpoints (R92, R99) -/

/-- The command that a slot says last: that of its pending frame, or else of its frame in transmission, or else of its
last transmitted frame. -/
def Setpoint.lastWord (sp : Setpoint) : Option SpCommand :=
  match sp.pending, sp.inTx, sp.lastTx with
  | some f, _, _ => some f.command
  | none, some p, _ => some p.1.command
  | none, none, some f => some f.command
  | none, none, none => none

/-- Outside reset, a channel that drives nothing - not RUNNING, in a transition, or in shadow mode - has no RUN as the last
word of its slot: nothing it sends afterwards is a RUN (R99). -/
abbrev State.quietSlots (s : State) : Prop :=
  s.resetN = true → ∀ c : ChanId,
    ((s.chan c).state ≠ .running ∨ (s.chan c).seq.inFlight = true ∨ (s.cfg c).shadow = true) →
      (s.chan c).sp.lastWord ≠ some .run

/-- Pending slots stand in an order: each has a pending-since number, below the next one, and no two have the same
(R92, R149). -/
abbrev State.sinceOk (s : State) : Prop :=
  (∀ c : ChanId, (s.chan c).sp.pending.isSome = true →
      (s.chan c).sp.since.any (fun n => decide (n < s.nextSince)) = true) ∧
    ∀ c d : ChanId, (s.chan c).sp.pending.isSome = true → (s.chan d).sp.pending.isSome = true →
      (s.chan c).sp.since = (s.chan d).sp.since → c = d

/-! ## Supervision (R105, R109, R110, R116, R119, R120) -/

/-- The fault record is empty as a whole or not at all: with no first cause it holds no cause, no first item and a count
of 0; otherwise it holds its first cause among its causes, the position and the tick of the first entry, and a count of
at least 1. No first T is there without first V and I. Each cause is listed once, in code order (R119, R120). -/
abbrev FaultRecord.ok (f : FaultRecord) : Prop :=
  f.count ≤ 65535 ∧ f.causes = allCauses.filter (fun x => f.causes.contains x) ∧
    (f.first = none → f = FaultRecord.empty) ∧
    f.first.all (fun x => f.causes.contains x) = true ∧
    (f.first ≠ none → f.firstPos ≠ none ∧ f.firstAt ≠ none ∧ 1 ≤ f.count) ∧
    (f.firstVI = none → f.firstT = none)

/-- The score lies in 0..255, the level is the band of the score, the recovery count is below 64 between events and 0
outside ISOLATED, and the fault record is consistent. -/
abbrev Channel.supervisionOk (ch : Channel) : Prop :=
  ch.sup.score ≤ 255 ∧ ch.sup.level = band ch.sup.score ∧ ch.sup.recovery < 64 ∧
    (ch.state ≠ .isolated → ch.sup.recovery = 0) ∧ ch.sup.fault.ok

/-! ## Accounting (R23, R24) -/

/-- Every accumulator is in its range and the residue is below one millijoule. -/
abbrev Accounts.inRange (a : Accounts) : Prop :=
  a.qs.natAbs ≤ Config.max47 ∧ a.es.natAbs ≤ Config.max47 ∧ a.ts ≤ Config.max32 ∧
    a.qcIn ≤ Config.max48 ∧ a.qcOut ≤ Config.max48 ∧ a.ecIn ≤ Config.max48 ∧ a.ecOut ≤ Config.max48 ∧
    a.tc ≤ Config.max32 ∧ a.qlIn ≤ Config.max64 ∧ a.qlOut ≤ Config.max64 ∧ a.elIn ≤ Config.max48 ∧
    a.elOut ≤ Config.max48 ∧ a.residue.natAbs < 1000000

/-! ## Source tracking (R6, R7, R12, R14, R15, R18) -/

/-- The reference and the last arrival are none together or present together; the stuck latch is set exactly at a count of
32; in OFF the silence and refresh timers are stopped and no run of repeats is counted; the AUX temperature is fresh
exactly while its timer runs. -/
abbrev Channel.trackingOk (ch : Channel) : Prop :=
  (ch.track.reference.isSome = ch.track.lastArrival.isSome) ∧
    ch.track.stuckCount ≤ 32 ∧ (ch.track.stuckLatch = true ↔ ch.track.stuckCount = 32) ∧
    (ch.state = .off →
      ch.track.silence = none ∧ ch.track.stuckCount = 0 ∧ ch.track.stuckLatch = false ∧ ch.sp.refresh = none) ∧
    (ch.track.aux = none → ch.track.auxFresh = false) ∧ ch.track.auxFresh = ch.track.auxTimer.isSome

/-- Every counter of a channel is in its range (R9, R57, R85). -/
abbrev Channel.countersOk (ch : Channel) : Prop :=
  ch.track.duplicate ≤ 65535 ∧ ch.track.stale ≤ 65535 ∧ ch.track.missed ≤ 65535 ∧ ch.track.gapClamp ≤ 65535 ∧
    ch.track.cadence ≤ 65535 ∧ ch.seq.lostEval ≤ 65535 ∧ ch.sp.superseded ≤ 65535 ∧ ch.sp.repeats ≤ 65535 ∧
    ch.seq.cycleCount ≤ Config.max32

/-! ## Well-formed records (R2, R39, R40, R43, R45, R49, R50, R103, R123, R124) -/

/-- A terminator slot that a write admits (R40). -/
abbrev Terminator.wf (t : Terminator) : Prop := t.target ≤ 1023 ∧ thresholdInRange t.kind t.threshold = true

/-- A step record that a write admits (R38, R39, R42, R43). -/
abbrev StepRecord.wf (r : StepRecord) : Prop :=
  (r.op = .invalid → r = StepRecord.reset) ∧ -2147483648 ≤ r.a ∧ r.a ≤ 2147483647 ∧ r.b ≤ 65535 ∧ r.g ≤ 255 ∧
    r.guard ≤ 65535 ∧ operandsInRange r.op r.a r.b r.g = true ∧ r.slot1.wf ∧ r.slot2.wf ∧ r.slot3.wf

/-- A program descriptor that a write admits (R44, R45). -/
abbrev ProgramDesc.wf (d : ProgramDesc) : Prop :=
  (d.valid = false → d = ProgramDesc.reset) ∧
    (d.valid = true → d.base ≤ 1023 ∧ 1 ≤ d.limit ∧ d.limit ≤ 1024 ∧ d.base + d.limit ≤ 1024 ∧ d.ichgMax ≤ 32767 ∧
      d.idisMax ≤ 32767)

/-- A profile segment that a write admits (R49). -/
abbrev Segment.wf (g : Segment) : Prop := 1 ≤ g.hold ∧ g.hold ≤ 65535 ∧ -32768 ≤ g.current ∧ g.current ≤ 32767

/-- A profile descriptor that a write admits (R50). -/
abbrev ProfileDesc.wf (d : ProfileDesc) : Prop :=
  (d.valid = false → d = ProfileDesc.reset) ∧
    (d.valid = true → d.first ≤ 2047 ∧ 1 ≤ d.count ∧ d.count ≤ 2048 ∧ d.first + d.count ≤ 2048)

/-- A limit set that a write admits (R102, R103). -/
abbrev LimitSet.wf (l : LimitSet) : Prop :=
  (l.valid = false → l = LimitSet.reset) ∧
    (l.valid = true →
      l.vHardMax ≤ 65535 ∧ l.iHardMax ≤ 32768 ∧ -32767 ≤ l.tHardMin ∧ l.tHardMax ≤ 32767 ∧ l.tolerance ≤ 65535 ∧
        l.vHardMin < l.vHardMax ∧ l.vSoftMin < l.vSoftMax ∧ l.vHardMin ≤ l.vSoftMin ∧ l.vSoftMax ≤ l.vHardMax ∧
        l.tHardMin < l.tHardMax ∧ l.tHardMin < l.tSoftMax ∧ l.tSoftMax ≤ l.tHardMax)

/-- A configuration record that CONFIGURE admits (R123, R124). -/
abbrev ConfigRec.wf (k : ConfigRec) : Prop :=
  (k.configured = false → k = ConfigRec.reset) ∧
    (k.configured = true →
      k.stage ≤ 63 ∧ 1 ≤ k.period ∧ k.period ≤ 10000 ∧ 1 ≤ k.gapLimit ∧ k.gapLimit ≤ 16 ∧ 2 ≤ k.silenceMult ∧
        k.silenceMult ≤ 64 ∧ k.limitSet ≤ 15)

/-! ## Tables and configuration (R3, R104, R125, R182) -/

/-- Every table is in its canonical form and within its size. -/
abbrev State.tablesWf (s : State) : Prop :=
  Table.wf AcceptEntry.reset 64 s.acceptTable = true ∧ Table.wf StepRecord.reset 1024 s.stepTable = true ∧
    Table.wf ProgramDesc.reset 64 s.programTable = true ∧ Table.wf Segment.reset 2048 s.segmentTable = true ∧
    Table.wf ProfileDesc.reset 32 s.profileTable = true ∧ Table.wf LimitSet.reset 16 s.limitTable = true ∧
    Table.wf ConfigRec.reset 32 s.configTable = true

/-- Every record that a table stores is one that its write admits. An acceptance entry has no combination of fields that its
write refuses (R2). -/
abbrev State.recordsOk (s : State) : Prop :=
  (∀ p ∈ s.stepTable, p.2.wf) ∧ (∀ p ∈ s.programTable, p.2.wf) ∧ (∀ p ∈ s.segmentTable, p.2.wf) ∧
    (∀ p ∈ s.profileTable, p.2.wf) ∧ (∀ p ∈ s.limitTable, p.2.wf) ∧ ∀ p ∈ s.configTable, p.2.wf

/-- A table request in execution stays inside its table and has accesses left (R43, R45, R49, R50, R55). -/
abbrev State.jobOk (s : State) : Prop :=
  s.job.all (fun j => decide (0 < j.left) && decide (j.index + j.left ≤ j.table.size)) = true

/-- No two enabled PRIMARY entries name the same channel (R3). -/
abbrev State.primariesOk (s : State) : Prop := acceptConflict s.acceptTable = false

/-- A channel that is not OFF is configured and names a valid limit set (R104, R125). -/
abbrev State.configured (s : State) : Prop :=
  ∀ c : ChanId, (s.chan c).state ≠ .off → (s.cfg c).configured = true ∧ (s.limits c).valid = true

/-- The table clear runs in INIT only, and while the engine is in INIT every channel is OFF, no request waits or is in
execution, and no record is queued (R180, R182, R183, R185). -/
abbrev State.initOk (s : State) : Prop :=
  (s.clearing = true → s.engine = .init) ∧
    (s.engine = .init →
      (∀ c : ChanId, (s.chan c).state = .off) ∧ s.requests = [] ∧ s.answers = [] ∧ s.reports = [] ∧ s.dropCount = 0)

/-! ## A safe state -/

/-- A safe state: all of the above. -/
abbrev State.safe (s : State) : Prop :=
  (s.queuesBounded ∧ s.relayWaitOk ∧ s.managementOk) ∧ s.flightsOk ∧ (s.quietSlots ∧ s.sinceOk) ∧
    (∀ c : ChanId, (s.chan c).supervisionOk) ∧ (∀ c : ChanId, (s.chan c).acct.inRange) ∧
    (∀ c : ChanId, (s.chan c).trackingOk ∧ (s.chan c).countersOk) ∧
    (s.tablesWf ∧ s.recordsOk ∧ s.jobOk ∧ s.primariesOk) ∧ (s.configured ∧ s.initOk)

/-! ## The words of the statements -/

/-- An event is taken at once: RESET_N is high and nothing is due before it (R63, R158). -/
abbrev State.attends (s : State) : Prop := s.resetN = true ∧ s.quiet = true

/-- Request `r` stands at the head of the request queue, before `rest`, and its execution starts now (R158, R170). -/
abbrev State.executes (s : State) (r : Request) (rest : List Request) : Prop :=
  s.resetN = true ∧ s.engine ≠ .init ∧ s.job = none ∧ s.resetPending = false ∧ s.answers.length < 2 ∧
    s.requests = r :: rest

/-- The state in which request `r` has left the request queue and its answer stands at the back of the answer queue
(R157, R159): nothing else differs. -/
def State.answered (s : State) (r : Request) (rest : List Request) (st : Status) (results : List Byte) : State :=
  { s with
    requests := rest
    answers := s.answers ++ [{ tag := r.tag, code := r.code, status := st, results := results, resets := false }] }

/-- The results that every answer to a channel command for a channel in 0..31 carries, with the channel's state after it
(R165). -/
def commandLine (r : Request) (st : ChState) : List Byte :=
  [r.args.getD 0 0, r.args.getD 1 0] ++ natBytes 1 st.code

/-- The command `r` names channel `c` and carries `n` bytes of arguments (R165). -/
abbrev Request.commands (r : Request) (c : ChanId) (n : Nat) : Prop :=
  r.args.length = 2 + n ∧ u8At r.args 0 = c.val

/-- Which rows of the table execute a management request (R158). -/
def requestRowOf : Instr → Option RequestRow
  | .unknownRequest => some .unknownRequest
  | .identify => some .identify
  | .readTableStep => some .readTableStep
  | .readTableProgram => some .readTableProgram
  | .readTableProfileSeg => some .readTableProfileSeg
  | .readTableProfile => some .readTableProfile
  | .readTableLimit => some .readTableLimit
  | .readTableAccept => some .readTableAccept
  | .readTableConfig => some .readTableConfig
  | .readTableUndefinedTable => some .readTableUndefinedTable
  | .writeTableStep => some .writeTableStep
  | .writeTableProgram => some .writeTableProgram
  | .writeTableProfileSeg => some .writeTableProfileSeg
  | .writeTableProfile => some .writeTableProfile
  | .writeTableLimit => some .writeTableLimit
  | .writeTableAccept => some .writeTableAccept
  | .writeTableConfig => some .writeTableConfig
  | .writeTableUndefinedTable => some .writeTableUndefinedTable
  | .configure => some .configure
  | .start => some .start
  | .hold => some .hold
  | .resume => some .resume
  | .stop => some .stop
  | .jump => some .jump
  | .clearFault => some .clearFault
  | .clearTotals => some .clearTotals
  | .undefinedChannelCommand => some .undefinedChannelCommand
  | .readChannel => some .readChannel
  | .readAccounts => some .readAccounts
  | .readFault => some .readFault
  | .readCounters => some .readCounters
  | .clearCounters => some .clearCounters
  | .resetEngine => some .resetEngine
  | .clearEstop => some .clearEstop
  | .undefinedEngineCommand => some .undefinedEngineCommand
  | .upFrameReceived _ | .dnFrameReceived _ | .framingError _ _ | .malformedHeader _ _ _ | .silenceExpiry _
  | .auxFreshnessExpiry _ | .refreshExpiry _ | .fetchStart | .fetchComplete | .managementAccessStart
  | .managementAccessComplete | .dnTransmitStart | .dnTransmitComplete | .upTransmitStart | .upTransmitComplete
  | .tableClearComplete | .resetNFall | .resetNRelease _ _ | .estopNFall | .estopNRise | .maintChange _
  | .receiverArmed _ | .upCrcError | .timeBaseTick => none

/-- The outcome of several commands given one after another. -/
def givenAll : List Instr → State → Host.Outcome State Fault Refusal
  | [], s => .next s
  | c :: cs, s =>
    match exec c s with
    | .next t => givenAll cs t
    | .fault e => .fault e
    | .refused e => .refused e

/-- The receiver of a port is past HUNT, so that a reception can end (R140). -/
abbrev State.listening (s : State) (p : Port) : Prop := s.rx p = .armed ∨ s.rx p = .receiving

/-- A frame without a receive error: its header passes (R141) and its CRC agrees (R142). -/
abbrev soundFrame (f : Frame) : Prop := f.wf = true ∧ crcOk f = true

/-- The frame carries the CRC of its header and payload (R142). -/
abbrev sealedFrame (f : Frame) : Prop :=
  f.crc = crc16 (f.byte0 :: f.addr :: BitVec.ofNat 8 f.payload.length :: f.payload)

/-- The value fits an unsigned field of two bytes. -/
abbrev fitsU16 (x : Nat) : Prop := x ≤ 65535
/-- The value fits an unsigned field of four bytes. -/
abbrev fitsU32 (x : Nat) : Prop := x ≤ 4294967295
/-- The value fits a signed field of two bytes. -/
abbrev fitsS16 (x : Int) : Prop := -32768 ≤ x ∧ x ≤ 32767
/-- The value fits a signed field of four bytes. -/
abbrev fitsS32 (x : Int) : Prop := -2147483648 ≤ x ∧ x ≤ 2147483647

/-- A SAMPLE frame arrives that an entry of role `role` claims for the configured channel `c` (R4, R5). -/
abbrev State.takesSample (s : State) (f : Frame) (c : ChanId) (role : Role) : Prop :=
  s.attends ∧ s.listening .dn ∧ soundFrame f ∧ frameKind f.byte0 = .sample ∧ s.engine ≠ .init ∧
    (s.cfg c).configured = true ∧ (s.claim f.addr).any (fun e => e.channel == c && e.role == role) = true

/-- The state in which channel `c` has become `ch` at one event that offered its slot `offers` frames and produced the
records `bodies` in order: nothing else differs. -/
def State.after (s : State) (c : ChanId) (ch : Channel) (offers : Nat) (bodies : List Body) : State :=
  { bodies.foldl (fun s b => s.produce c b) s with
    channels := s.channels.set c.val ch
    nextSince := if (s.cfg c).shadow then s.nextSince else s.nextSince + offers }

/-- Channel `c`'s setpoint context after the pending-since order `n` met an offer of ZERO, OPEN or RUN (R93, R98). -/
def State.slot (s : State) (c : ChanId) (cmd : SpCommand) (current : Int) (n : Nat) : Setpoint :=
  if (s.cfg c).shadow then (s.chan c).sp
  else (s.chan c).sp.offer
    { stage := (s.cfg c).stage, command := cmd, current := current, rep := false, final := false } n

/-- The STATE record of a change, if the channel has STATE reports enabled (R128, R176). -/
def State.stateBody (s : State) (c : ChanId) (old new : ChState) (l : Level) (r : Reason) : List Body :=
  if (s.cfg c).stateReport then [.state { old := old, new := new, level := l, reason := r }] else []

/-- The STEP_END record of the executing step, if its copy has REPORT set (R77, R173). -/
def State.stepEndBodies (s : State) (c : ChanId) (cause : EndCause) (v : Nat) (i : Int) (t : Option Int) : List Body :=
  match (s.chan c).seq.stepCopy with
  | none => []
  | some r => if r.report then [.stepEnd (stepEndBody (s.chan c).seq (s.chan c).acct cause v i t)] else []

/-- A channel whose transition has begun (R61): step accumulators 0, no step, the position at `index`, the chain count 0,
and the slot as given. -/
def Channel.begun (ch : Channel) (index : Nat) (hp : Option HoldKind) (sp : Setpoint) : Channel :=
  { ch with
    acct := { ch.acct with qs := 0, es := 0, ts := 0 }
    seq := { ch.seq with
      stepCopy := none, peak := none, ordinal := 0, segStart := 0, index := index, chain := 0, inFlight := true,
      holdPending := hp }
    sp := sp }

/-- A sequencing context whose transition or step has been given up (R71, R81, R83). -/
def Sequencing.dropped (q : Sequencing) (step : Option StepRecord) (rp : ResumePoint) : Sequencing :=
  { q with
    inFlight := false, holdPending := none, grace := false, chain := 0, pendingEval := none, stepCopy := step
    resume := rp }

/-- The FAULT record of an entry at channel `c`'s position (R120, R175). -/
def State.faultBodyOf (s : State) (c : ChanId) (e : FaultEntry) (a : FaultAction) : Body :=
  .fault
    { cause := e.lead, action := a, selector := (s.chan c).seq.selector, index := (s.chan c).seq.index,
      v := (e.vi.map (·.1)).getD 0, i := (e.vi.map (·.2)).getD 0, t := e.t }

/-- Channel `c`'s fault record after an entry now (R119, R120). -/
def State.entered (s : State) (c : ChanId) (e : FaultEntry) : FaultRecord :=
  (s.chan c).sup.fault.enter e (s.cfg c).mode ((s.chan c).seq.selector, (s.chan c).seq.index) s.timeBase

/-- The state that a trip gives a channel (R113). -/
def State.tripState (s : State) (c : ChanId) : ChState :=
  match (s.cfg c).policy with
  | .holdAtTrip => .held
  | .auto | .holdAfterRecovery | .controller => .isolated

/-- Channel `c` after a trip (R113), its OPEN having met the slot with the pending-since order `n`. -/
def State.tripped (s : State) (c : ChanId) (e : FaultEntry) (n : Nat) : Channel :=
  { s.chan c with
    state := s.tripState c
    seq := (s.chan c).seq.dropped none .transition
    sp := s.slot c .openPath 0 n
    sup := { (s.chan c).sup with recovery := 0, hardMark := decide (e.lead ≠ .score), fault := s.entered c e } }

/-- The step fetch queue without channel `c` (R62). -/
def State.fetchWithout (s : State) (c : ChanId) : List ChanId := s.fetchQueue.filter (fun d => d != c)

end Sys2Proof.Machine
end

