-- ==== Sys2Proof/Certificates/Slice0/Obligations.lean ====
section
/-! DEFINITION. The statements for the provers, in the order of OBLIGATIONS.json. They are written with the vocabulary of
Sys2Proof/Safety.lean. -/

open Sys2Proof Sys2Proof.Machine

/-! ## The block as a whole -/

/-- A step runs the command at the front of the queue on the state with the queue's rest; on an empty queue the block idles
(the model's choice, notes/assumptions/2.md). -/
def Obligations.StepTakesFrontCommand : Prop :=
  (∀ (c : Instr) (s : State) (rest : List Instr),
      step { s with pending := c :: rest } = exec c { s with pending := rest }) ∧
    ∀ s : State, s.pending = [] → step s = .next s

/-- What power-on reset leaves (R6, R23, R24, R27, R57, R62, R63, R85, R105, R126, R140, R143, R147, R150, R151, R157, R159,
R177, R178, R182, R183), and that the state after reset is safe. The levels of RESET_N, ESTOP_N and MAINT and the two straps are
the model's choice (notes/assumptions/1.md); the empty queue of commands (notes/assumptions/2.md) and the count of offers
(notes/assumptions/15.md) are the model's own fields. The one field left out is the counter readRaces: it is the argument of a
free value, and no statement rests on it (notes/assumptions/13.md). -/
def Obligations.ResetIsSafe : Prop :=
  State.reset.safe ∧
    State.reset.engine = .init ∧ State.reset.clearing = true ∧ State.reset.timeBase = 0 ∧
    State.reset.upRx = .hunt true ∧ State.reset.dnRx = .hunt true ∧ State.reset.upTx = none ∧ State.reset.dnTx = none ∧
    State.reset.relayDown = [] ∧ State.reset.relayUp = [] ∧ State.reset.requests = [] ∧ State.reset.answers = [] ∧
    State.reset.reports = [] ∧ State.reset.dropCount = 0 ∧ State.reset.relayWait = 0 ∧ State.reset.upServed = .relay ∧
    State.reset.fetchQueue = [] ∧ State.reset.port = .free ∧ State.reset.portLast = .management ∧
    State.reset.link = LinkCounters.reset ∧ State.reset.job = none ∧ State.reset.resetPending = false ∧
    State.reset.resetN = true ∧ State.reset.estopN = true ∧ State.reset.maint = false ∧ State.reset.addrStrap = 0 ∧
    State.reset.rateStrap = false ∧ State.reset.nextSince = 0 ∧ State.reset.pending = [] ∧
    (∀ i : Nat, State.reset.stepRec i = StepRecord.reset ∧ State.reset.programDesc i = ProgramDesc.reset ∧
      State.reset.segment i = Segment.reset ∧ State.reset.profileDesc i = ProfileDesc.reset ∧
      State.reset.limitSet i = LimitSet.reset ∧ State.reset.acceptEntry i = AcceptEntry.reset) ∧
    ∀ c : ChanId, State.reset.cfg c = ConfigRec.reset ∧
      State.reset.chan c =
        { state := .off, track := Tracking.reset, acct := Accounts.reset, seq := Sequencing.reset, sp := Setpoint.reset,
          sup := Supervision.reset }

/-- Every command answers a next state and leaves the commands that wait behind it as they are. Both are the model's words: the
manual names nothing that stops the engine, so no command ends in a fault or a refusal (notes/assumptions/22.md), and the
queue of waiting commands is the model's own, into which nothing inside the block puts a command
(notes/assumptions/2.md). -/
def Obligations.EveryCommandCompletes : Prop :=
  ∀ (c : Instr) (s : State), ∃ t : State, exec c s = .next t ∧ t.pending = s.pending

/-- What is due is started before any other event (R63, R158): starting it leaves nothing due, and a command that is not
the execution of a request and not a change of RESET_N does in any state what it does once the due work has been started.
That the model starts it by itself, before the next event, is a deduction (notes/assumptions/4.md). Requests run one at a
time, from the head of the request queue (R157, R158): the row of a head request that is due executes it, a row of another
kind finds it started already, and a row does nothing when nothing is due. The last two clauses are the model's choice: no
rule speaks of a request row that is given out of its turn (notes/assumptions/3.md). -/
def Obligations.DueWorkRunsFirst : Prop :=
  ((∀ s : State, s.settle.quiet = true) ∧
      ∀ (c : Instr) (s : State), requestRowOf c = none → c ≠ .resetNFall → (∀ a r, c ≠ .resetNRelease a r) →
        exec c s = exec c s.settle) ∧
  (∀ (c : Instr) (s : State) (row : RequestRow), requestRowOf c = some row →
      (∀ r rest, s.executes r rest →
        (r.row = row → exec c s = .next (runRow row s r)) ∧
          (r.row ≠ row → exec c s = .next (runRow r.row s r).settle)) ∧
        (s.attends → exec c s = .next s))

/-! ## Receiving and routing (Section 8) -/

/-- The routing table of R145 for a frame that arrives at UP without a receive error, row by row. -/
def Obligations.UpRouting : Prop :=
  ∀ (s : State) (f : Frame), s.attends → s.listening .up → soundFrame f →
    (frameKind f.byte0 = .mgmtReq → f.addr = s.engineAddress → s.engine ≠ .init →
      ∀ tag code args, f.payload = tag :: code :: args →
        (s.requests.length < 4 → exec (.upFrameReceived f) s =
          .next { s with upRx := .hunt true, requests := s.requests ++ [{ tag := tag, code := code, args := args }] }) ∧
        (4 ≤ s.requests.length → exec (.upFrameReceived f) s =
          .next { s with upRx := .hunt true, link := { s.link with mgmtDrop := min 65535 (s.link.mgmtDrop + 1) } })) ∧
    (frameKind f.byte0 = .mgmtReq → f.addr = s.engineAddress → f.payload.length ≤ 1 →
      exec (.upFrameReceived f) s =
        .next { s with upRx := .hunt true, link := { s.link with upMalformed := min 65535 (s.link.upMalformed + 1) } }) ∧
    (frameKind f.byte0 = .mgmtReq → f.addr = s.engineAddress → s.engine = .init → 2 ≤ f.payload.length →
      exec (.upFrameReceived f) s =
        .next { s with upRx := .hunt true, link := { s.link with mgmtDrop := min 65535 (s.link.mgmtDrop + 1) } }) ∧
    ((frameKind f.byte0 = .mgmtAns ∨ frameKind f.byte0 = .report) → f.addr = s.engineAddress →
      exec (.upFrameReceived f) s =
        .next { s with upRx := .hunt true, link := { s.link with upMalformed := min 65535 (s.link.upMalformed + 1) } }) ∧
    ((f.addr ≠ s.engineAddress ∨ frameKind f.byte0 = .sample ∨ frameKind f.byte0 = .setpoint ∨
        frameKind f.byte0 = .transit) →
      (s.relayDown.length < 8 → exec (.upFrameReceived f) s =
        .next { s with upRx := .hunt true, relayDown := s.relayDown ++ [f] }) ∧
      (8 ≤ s.relayDown.length → exec (.upFrameReceived f) s =
        .next { s with upRx := .hunt true, link := { s.link with relayDropDown := min 65535 (s.link.relayDropDown + 1) } }))

/-- Routing of a frame that arrives at DN without a receive error (R4, R5, R146): a SAMPLE frame offered outside INIT is
claimed by the lowest-numbered enabled entry that agrees with its tag under the mask, and used by that entry's role, or by
nothing when its channel is unconfigured; every other frame joins the D→U relay queue or is counted. -/
def Obligations.DnRouting : Prop :=
  ∀ (s : State) (f : Frame), s.attends → s.listening .dn → soundFrame f →
    (frameKind f.byte0 = .sample → s.engine ≠ .init →
      ∀ i, i < 64 → (s.acceptEntry i).enable = true →
        f.addr &&& (s.acceptEntry i).mask = (s.acceptEntry i).tag &&& (s.acceptEntry i).mask →
        (∀ j, j < i → ¬ ((s.acceptEntry j).enable = true ∧
          f.addr &&& (s.acceptEntry j).mask = (s.acceptEntry j).tag &&& (s.acceptEntry j).mask)) →
        ((s.cfg (s.acceptEntry i).channel).configured = false →
          exec (.dnFrameReceived f) s = .next { s with dnRx := .hunt true }) ∧
        ((s.cfg (s.acceptEntry i).channel).configured = true →
          exec (.dnFrameReceived f) s = .next
            (match (s.acceptEntry i).role with
             | .primary => { s with dnRx := .hunt true }.primaryFrame (s.acceptEntry i).channel (readSample f.payload)
             | .aux => { s with dnRx := .hunt true }.auxFrame (s.acceptEntry i).channel (readSample f.payload)
             | .check => { s with dnRx := .hunt true }.checkFrame (s.acceptEntry i).channel (readSample f.payload)))) ∧
    ((frameKind f.byte0 ≠ .sample ∨ s.engine = .init ∨
        ∀ i, i < 64 → ¬ ((s.acceptEntry i).enable = true ∧
          f.addr &&& (s.acceptEntry i).mask = (s.acceptEntry i).tag &&& (s.acceptEntry i).mask)) →
      (s.relayUp.length < 16 → exec (.dnFrameReceived f) s =
        .next { s with dnRx := .hunt true, relayUp := s.relayUp ++ [f] }) ∧
      (16 ≤ s.relayUp.length → exec (.dnFrameReceived f) s =
        .next { s with dnRx := .hunt true, link := { s.link with relayDropUp := min 65535 (s.link.relayDropUp + 1) } }))

/-- What a receiver does at each port when a reception fails or the line is idle long enough (R140 to R143): the counter of
the port that counts it, and the receiver's next state. -/
def Obligations.ReceiverRows : Prop :=
  ∀ s : State, s.attends →
    (s.listening .up →
      exec (.framingError .up .stopBit) s =
        .next { s with upRx := .hunt false, link := { s.link with upFraming := min 65535 (s.link.upFraming + 1) } } ∧
      exec (.framingError .up .truncated) s =
        .next { s with upRx := .armed, link := { s.link with upFraming := min 65535 (s.link.upFraming + 1) } } ∧
      exec .upCrcError s =
        .next { s with upRx := .hunt true, link := { s.link with upCrc := min 65535 (s.link.upCrc + 1) } } ∧
      (∀ f : Frame, f.wf = true → crcOk f = false → exec (.upFrameReceived f) s =
        .next { s with upRx := .hunt true, link := { s.link with upCrc := min 65535 (s.link.upCrc + 1) } }) ∧
      ∀ b l, headerMalformed b l.toNat = true → exec (.malformedHeader .up b l) s =
        .next { s with upRx := .hunt false, link := { s.link with upMalformed := min 65535 (s.link.upMalformed + 1) } }) ∧
    (s.listening .dn →
      exec (.framingError .dn .stopBit) s =
        .next { s with dnRx := .hunt false, link := { s.link with dnFraming := min 65535 (s.link.dnFraming + 1) } } ∧
      exec (.framingError .dn .truncated) s =
        .next { s with dnRx := .armed, link := { s.link with dnFraming := min 65535 (s.link.dnFraming + 1) } } ∧
      (∀ f : Frame, f.wf = true → crcOk f = false → exec (.dnFrameReceived f) s =
        .next { s with dnRx := .hunt true, link := { s.link with dnCrc := min 65535 (s.link.dnCrc + 1) } }) ∧
      ∀ b l, headerMalformed b l.toNat = true → exec (.malformedHeader .dn b l) s =
        .next { s with dnRx := .hunt false, link := { s.link with dnMalformed := min 65535 (s.link.dnMalformed + 1) } }) ∧
    (∀ b : Bool, s.upRx = .hunt b →
      exec (.receiverArmed .up) s = .next { s with upRx := .armed } ∧
      exec (.framingError .up .strayZero) s =
        .next (if b then
            { s with upRx := .hunt false, link := { s.link with upFraming := min 65535 (s.link.upFraming + 1) } }
          else s)) ∧
    ∀ b : Bool, s.dnRx = .hunt b →
      exec (.receiverArmed .dn) s = .next { s with dnRx := .armed } ∧
      exec (.framingError .dn .strayZero) s =
        .next (if b then
            { s with dnRx := .hunt false, link := { s.link with dnFraming := min 65535 (s.link.dnFraming + 1) } }
          else s)

/-! ## Samples (Section 1) -/

/-- A PRIMARY sample that repeats the reference is a duplicate, and one 128 or more behind it is stale (R9): it is counted
and has no other effect. A PRIMARY sample that arrives without a reference is a reference sample (R8, R10, R20): its span
is 0, it carries no GAP, CADENCE or STUCK, it sets the reference, and its delivery is accounted, supervised and sequenced.
-/
def Obligations.FirstAndDiscardedSamples : Prop :=
  (∀ (s : State) (f : Frame) (c : ChanId) (ref : Byte), s.takesSample f c .primary →
      (s.chan c).track.reference = some ref →
      (f.payload.getD 0 0 = ref →
        exec (.dnFrameReceived f) s = .next { s with
          dnRx := .hunt true
          channels := s.channels.set c.val { s.chan c with
            track := { (s.chan c).track with duplicate := min 65535 ((s.chan c).track.duplicate + 1) } } }) ∧
      (128 ≤ (f.payload.getD 0 0 - ref).toNat →
        exec (.dnFrameReceived f) s = .next { s with
          dnRx := .hunt true
          channels := s.channels.set c.val { s.chan c with
            track := { (s.chan c).track with stale := min 65535 ((s.chan c).track.stale + 1) } } })) ∧
  (∀ (s : State) (f : Frame) (c : ChanId), s.takesSample f c .primary → (s.chan c).track.reference = none →
      ∀ (x : SampleFields) (t : State) (d : Delivery), x = readSample f.payload →
      t = { s with
        dnRx := .hunt true
        channels := s.channels.set c.val { s.chan c with
          track := { (s.chan c).track with
            reference := some x.seq, lastArrival := some s.timeBase
            lastPrimary := some { v := x.v, i := x.i, t := x.t }
            silence :=
              if (s.chan c).state = .off then (s.chan c).track.silence
              else some (s.timeBase + BitVec.ofNat 32 ((s.cfg c).silenceMult * (s.cfg c).period)) } } } →
      d = { tick := s.timeBase, v := x.v, i := x.i, t := x.t, span := 0, gap := false, cadence := false,
            overrange := x.overrange, stuck := false
            aux := if (s.chan c).track.auxFresh then (s.chan c).track.aux.map (·.1) else none } →
      exec (.dnFrameReceived f) s = .next (((t.accountDelivery c d).supervise c d).sequence c d))

/-- A PRIMARY sample 1 to 127 ahead of the reference is accepted (R9 to R11, R14 to R16, R20): the span is held at the gap
limit with GAP, the cadence is judged on exact integers, the samples missed are counted, the stuck comparison of
`stuckStep` is made unless the channel is OFF, and the delivery is accounted, supervised and sequenced. The stuck
comparison (R14, R15): 32 equal readings of 0.5 A or more after the first carry STUCK once and set the latch, the latch
holds the count at 32 while the reading stays, and a reading that moves or is too small makes the count 0. -/
def Obligations.AcceptedSamples : Prop :=
  (∀ (s : State) (f : Frame) (c : ChanId) (ref : Byte) (last : Tick), s.takesSample f c .primary →
      (s.chan c).track.reference = some ref → (s.chan c).track.lastArrival = some last →
      ∀ (x : SampleFields) (k : Nat) (t : State) (d : Delivery), x = readSample f.payload → k = (x.seq - ref).toNat →
      1 ≤ k → k ≤ 127 →
      ∀ (clamped cad : Bool) (span : Nat) (st : Nat × Bool × Bool), clamped = decide ((s.cfg c).gapLimit < k) →
      span = min k (s.cfg c).gapLimit →
      cad = (decide (2 * (s.timeBase - last).toNat < span * (s.cfg c).period) ||
        decide (2 * (span * (s.cfg c).period) < (s.timeBase - last).toNat)) →
      st = (if (s.chan c).state = .off then ((s.chan c).track.stuckCount, (s.chan c).track.stuckLatch, false)
        else stuckStep (s.chan c).track x.v x.i) →
      t = { s with
        dnRx := .hunt true
        channels := s.channels.set c.val { s.chan c with
          track := { (s.chan c).track with
            reference := some x.seq, lastArrival := some s.timeBase
            lastPrimary := some { v := x.v, i := x.i, t := x.t }, stuckCount := st.1, stuckLatch := st.2.1
            silence :=
              if (s.chan c).state = .off then (s.chan c).track.silence
              else some (s.timeBase + BitVec.ofNat 32 ((s.cfg c).silenceMult * (s.cfg c).period))
            missed := min 65535 ((s.chan c).track.missed + (k - 1))
            gapClamp := if clamped then min 65535 ((s.chan c).track.gapClamp + 1) else (s.chan c).track.gapClamp
            cadence := if cad then min 65535 ((s.chan c).track.cadence + 1) else (s.chan c).track.cadence } } } →
      d = { tick := s.timeBase, v := x.v, i := x.i, t := x.t, span := span, gap := clamped, cadence := cad,
            overrange := x.overrange, stuck := st.2.2
            aux := if (s.chan c).track.auxFresh then (s.chan c).track.aux.map (·.1) else none } →
      exec (.dnFrameReceived f) s = .next (((t.accountDelivery c d).supervise c d).sequence c d)) ∧
  (∀ (t : Tracking) (v : Nat) (i : Int),
      (t.stuckLatch = false → t.lastPrimary.map (·.v) = some v → 50 ≤ i.natAbs → t.stuckCount < 31 →
        stuckStep t v i = (t.stuckCount + 1, false, false)) ∧
      (t.stuckLatch = false → t.lastPrimary.map (·.v) = some v → 50 ≤ i.natAbs → t.stuckCount = 31 →
        stuckStep t v i = (32, true, true)) ∧
      (t.stuckLatch = false → (t.lastPrimary.map (·.v) ≠ some v ∨ i.natAbs < 50) → stuckStep t v i = (0, false, false)) ∧
      (t.stuckLatch = true → t.lastPrimary.map (·.v) = some v → stuckStep t v i = (t.stuckCount, true, false)) ∧
      (t.stuckLatch = true → t.lastPrimary.map (·.v) ≠ some v → stuckStep t v i = (0, false, false)))

/-- AUX and CHECK frames (R17 to R19): a present AUX temperature replaces the stored one with its arrival tick, is fresh and
starts its timer, which expires M × P + 1 ticks later; an absent one changes nothing; a CHECK frame raises a PLAUSIBILITY
event exactly when its voltage differs from the last primary one by more than the tolerance of a valid limit set. -/
def Obligations.AuxAndCheckFrames : Prop :=
  (∀ (s : State) (f : Frame) (c : ChanId), s.takesSample f c .aux →
    ((readSample f.payload).t = none → exec (.dnFrameReceived f) s = .next { s with dnRx := .hunt true }) ∧
    ∀ v, (readSample f.payload).t = some v → exec (.dnFrameReceived f) s = .next { s with
      dnRx := .hunt true
      channels := s.channels.set c.val { s.chan c with
        track := { (s.chan c).track with
          aux := some (v, s.timeBase), auxFresh := true
          auxTimer := some (s.timeBase + BitVec.ofNat 32 ((s.cfg c).silenceMult * (s.cfg c).period + 1)) } } }) ∧
  (∀ (s : State) (f : Frame) (c : ChanId), s.takesSample f c .check →
    (∀ p, (s.chan c).track.lastPrimary = some p → (s.limits c).valid = true →
      (s.limits c).tolerance < (((readSample f.payload).v : Int) - p.v).natAbs →
      exec (.dnFrameReceived f) s = .next ({ s with dnRx := .hunt true }.plausibility c)) ∧
    (((s.chan c).track.lastPrimary = none ∨ (s.limits c).valid = false ∨
        ∃ p, (s.chan c).track.lastPrimary = some p ∧
          (((readSample f.payload).v : Int) - p.v).natAbs ≤ (s.limits c).tolerance) →
      exec (.dnFrameReceived f) s = .next { s with dnRx := .hunt true })) ∧
  ∀ (s : State) (c : ChanId), s.attends → (s.chan c).track.auxTimer = some s.timeBase →
    exec (.auxFreshnessExpiry c) s = .next { s with
      channels := s.channels.set c.val { s.chan c with
        track := { (s.chan c).track with auxFresh := false, auxTimer := none } } }

/-! ## Accounting (Section 2) -/

/-- Which accumulators move for a delivery, by the state of its channel (R22, R23, R25, R26, R28), and that nothing else of
the engine does. -/
def Obligations.AccountingByState : Prop :=
  ∀ (s : State) (c : ChanId) (d : Delivery) (a : Accounts) (q e w : Int) (n : Nat), a = (s.chan c).acct →
    n = d.span * (s.cfg c).period → q = d.i * n → e = d.v * d.i * n → w = (a.residue + e).tdiv 1000000 →
    ∃ b : Accounts, s.accountDelivery c d = { s with channels := s.channels.set c.val { s.chan c with acct := b } } ∧
      ((s.chan c).state = .off → b = a) ∧
      ((s.chan c).state ≠ .off →
        b.residue = a.residue + e - w * 1000000 ∧ b.qlIn = min Config.max64 (a.qlIn + q.toNat) ∧
          b.qlOut = min Config.max64 (a.qlOut + (-q).toNat) ∧ b.elIn = min Config.max48 (a.elIn + w.toNat) ∧
          b.elOut = min Config.max48 (a.elOut + (-w).toNat)) ∧
      ((s.chan c).state ≠ .running →
        b = { a with residue := b.residue, qlIn := b.qlIn, qlOut := b.qlOut, elIn := b.elIn, elOut := b.elOut }) ∧
      ((s.chan c).state = .running →
        b.qs = max (-140737488355327) (min 140737488355327 (a.qs + q)) ∧
          b.es = max (-140737488355327) (min 140737488355327 (a.es + w)) ∧ b.ts = min 4294967295 (a.ts + n) ∧
          b.qSat = (a.qSat || decide (140737488355327 < (a.qs + q).natAbs)) ∧
          b.eSat = (a.eSat || decide (140737488355327 < (a.es + w).natAbs)) ∧
          b.tSat = (a.tSat || decide (4294967295 < a.ts + n)) ∧
          b.qcIn = min Config.max48 (a.qcIn + q.toNat) ∧ b.qcOut = min Config.max48 (a.qcOut + (-q).toNat) ∧
          b.ecIn = min Config.max48 (a.ecIn + w.toNat) ∧ b.ecOut = min Config.max48 (a.ecOut + (-w).toNat) ∧
          b.tc = min 4294967295 (a.tc + n))

/-- The lifetime totals account exactly for what they have received (R34): over any run of deliveries accounted in any states,
as long as no lifetime total has reached its largest value, the growth of the charge totals is the sum of the charge
increments of the deliveries taken outside OFF, and the growth of the energy totals with the change of the residue is the
sum of their energy increments. -/
def Obligations.LifetimeTotalsAreExact : Prop :=
  ∀ (a b : Accounts) (l : List (ChState × Delivery × Nat)),
    b = l.foldl (fun a x => a.account x.1 x.2.1 x.2.2) a →
    (b.qlIn < Config.max64 → b.qlOut < Config.max64 →
      ((b.qlIn : Int) - b.qlOut) - ((a.qlIn : Int) - a.qlOut) =
        ((l.filter (fun x => x.1 != .off)).map (fun x => x.2.1.i * ((x.2.1.span * x.2.2 : Nat) : Int))).sum) ∧
    (b.elIn < Config.max48 → b.elOut < Config.max48 →
      (((b.elIn : Int) - b.elOut) - ((a.elIn : Int) - a.elOut)) * 1000000 + (b.residue - a.residue) =
        ((l.filter (fun x => x.1 != .off)).map
          (fun x => (x.2.1.v : Int) * x.2.1.i * ((x.2.1.span * x.2.2 : Nat) : Int))).sum)

/-- The efficiency field of a CYCLE_END record (R37), with the fields that R35 and R36 give the two measurement records:
a total divided by 3600 and rounded half away from zero, held within its field, the CLAMPED flag saying when one was. The
other fields of a STEP_END record (R77, R173): the selector and the relative index of the step, the end cause and the final V,
I and T as they are given, the three sticky flags as they stand, and the step time unconverted. -/
def Obligations.ReportFields : Prop :=
  (∀ (a : Accounts) (n : Nat),
    ((cycleEndBody a n).efficiency = none ↔ a.qcIn = 0) ∧
    (0 < a.qcIn → (cycleEndBody a n).efficiency = some (min 65535 (10000 * a.qcOut / a.qcIn))) ∧
    ((cycleEndBody a n).clamped = true ↔
      (0 < a.qcIn ∧ 65535 < 10000 * a.qcOut / a.qcIn) ∨ 4294967295 < (a.qcIn + 1800) / 3600 ∨
        4294967295 < (a.qcOut + 1800) / 3600 ∨ 4294967295 < (a.ecIn + 1800) / 3600 ∨
        4294967295 < (a.ecOut + 1800) / 3600) ∧
    (cycleEndBody a n).chargeIn = min 4294967295 ((a.qcIn + 1800) / 3600) ∧
    (cycleEndBody a n).chargeOut = min 4294967295 ((a.qcOut + 1800) / 3600) ∧
    (cycleEndBody a n).energyIn = min 4294967295 ((a.ecIn + 1800) / 3600) ∧
    (cycleEndBody a n).energyOut = min 4294967295 ((a.ecOut + 1800) / 3600) ∧
    (cycleEndBody a n).duration = a.tc ∧ (cycleEndBody a n).cycle = n) ∧
  (∀ x : Int,
    (0 ≤ x → 3600 * toHours x - 1800 ≤ x ∧ x < 3600 * toHours x + 1800) ∧
      (x < 0 → 3600 * toHours x - 1800 < x ∧ x ≤ 3600 * toHours x + 1800)) ∧
  ∀ (q : Sequencing) (a : Accounts) (cause : EndCause) (v : Nat) (i : Int) (t : Option Int),
    (stepEndBody q a cause v i t).charge = max (-2147483647) (min 2147483647 (toHours a.qs)) ∧
    (stepEndBody q a cause v i t).energy = max (-2147483647) (min 2147483647 (toHours a.es)) ∧
    ((stepEndBody q a cause v i t).clamped = true ↔
      2147483647 < (toHours a.qs).natAbs ∨ 2147483647 < (toHours a.es).natAbs) ∧
    (stepEndBody q a cause v i t).time = a.ts ∧
    (stepEndBody q a cause v i t).selector = q.selector ∧ (stepEndBody q a cause v i t).index = q.index ∧
    (stepEndBody q a cause v i t).cause = cause ∧ (stepEndBody q a cause v i t).qSat = a.qSat ∧
    (stepEndBody q a cause v i t).eSat = a.eSat ∧ (stepEndBody q a cause v i t).tSat = a.tSat ∧
    (stepEndBody q a cause v i t).v = v ∧ (stepEndBody q a cause v i t).i = i ∧ (stepEndBody q a cause v i t).t = t

/-! ## Tables and the table port (Sections 3 and 4.3) -/

/-- The seven table record forms as bytes (R156, R164, Section 9.2). The codes of op, terminator kind and action, role, policy,
fault mode and repeat. Each field of a record at its own bytes, in the width and the sign that its layout gives: the step record
with its flags REPORT and CYCLE and its three terminator slots, whose threshold is signed for TEMP_ABOVE and unsigned for every
other kind; and PROGRAM, PROFILE_SEG, PROFILE, LIMIT, ACCEPT and CONFIG, with the bytes sent as 0. And a record that a write
admits is read back from its bytes unchanged. -/
def Obligations.RecordsReadBack : Prop :=
  ([StepOp.invalid, .rest, .cc, .cp, .cccv, .profile, .loop, .endloop, .call, .ret, .endProgram].map StepOp.code =
      [0, 1, 2, 3, 4, 5, 8, 9, 10, 11, 12] ∧
    [TermKind.none, .vAbove, .vBelow, .iAbsBelow, .time, .chargeAbs, .energyAbs, .tempAbove, .dvDrop].map TermKind.code =
      [0, 1, 2, 3, 4, 5, 6, 7, 8] ∧
    [TermAction.next, .goto, .endProgram, .hold, .brk].map TermAction.code = [0, 1, 2, 3, 4] ∧
    [Role.primary, .aux, .check].map Role.code = [0, 1, 2] ∧
    [Policy.auto, .holdAfterRecovery, .controller, .holdAtTrip].map Policy.code = [0, 1, 2, 3] ∧
    [FaultMode.first, .accumulate].map FaultMode.code = [0, 1] ∧ [Repeat.once, .wrap].map Repeat.code = [0, 1]) ∧
  (∀ (r : StepRecord) (p : List Byte), p = stepBytes r → r.wf →
    readStep p = some r ∧ p.length = 32 ∧ u8At p 0 = r.op.code ∧ u8At p 1 = r.report.toNat + 2 * r.cycle.toNat ∧
    s32At p 2 = r.a ∧ u16At p 6 = r.b ∧ u8At p 8 = r.g ∧ u16At p 9 = r.guard ∧
    ∀ (i : Nat) (x : Terminator), (i, x) ∈ [(11, r.slot1), (18, r.slot2), (25, r.slot3)] →
      u8At p i = 16 * x.kind.code + x.action.code ∧ u16At p (i + 1) = x.target ∧
      (if x.kind = .tempAbove then s32At p (i + 3) else (u32At p (i + 3) : Int)) = x.threshold) ∧
  (∀ (d : ProgramDesc) (p : List Byte), p = programBytes d → d.wf →
    readProgram p = some d ∧ p.length = 12 ∧ u8At p 0 = d.valid.toNat ∧
    u8At p 1 = d.allowCharge.toNat + 2 * d.allowDischarge.toNat ∧ u16At p 2 = d.base ∧ u16At p 4 = d.limit ∧
    u16At p 6 = d.ichgMax ∧ u16At p 8 = d.idisMax ∧ u16At p 10 = 0) ∧
  (∀ (g : Segment) (p : List Byte), p = segmentBytes g → fitsS16 g.current → fitsU16 g.hold →
    (g.wf → readSegment p = some g) ∧ p.length = 4 ∧ s16At p 0 = g.current ∧ u16At p 2 = g.hold) ∧
  (∀ (d : ProfileDesc) (p : List Byte), p = profileBytes d → d.wf →
    readProfile p = some d ∧ p.length = 6 ∧ u8At p 0 = d.valid.toNat ∧ u8At p 1 = d.rep.code ∧ u16At p 2 = d.first ∧
    u16At p 4 = d.count) ∧
  (∀ (l : LimitSet) (p : List Byte), p = limitBytes l → l.wf →
    readLimit p = some l ∧ p.length = 24 ∧ u8At p 0 = l.valid.toNat ∧ u8At p 1 = l.tRequired.toNat ∧
    u16At p 2 = l.vHardMin ∧ u16At p 4 = l.vHardMax ∧ u16At p 6 = l.iHardMax ∧ s16At p 8 = l.tHardMin ∧
    s16At p 10 = l.tHardMax ∧ u16At p 12 = l.vSoftMin ∧ u16At p 14 = l.vSoftMax ∧ s16At p 16 = l.tSoftMax ∧
    u16At p 18 = l.tolerance ∧ u32At p 20 = 0) ∧
  (∀ (e : AcceptEntry) (p : List Byte), p = acceptBytes e →
    readAccept p = some e ∧ p.length = 4 ∧ u8At p 0 = 16 * e.role.code + e.enable.toNat ∧ u8At p 1 = e.tag.toNat ∧
    u8At p 2 = e.mask.toNat ∧ u8At p 3 = e.channel.val) ∧
  ∀ (k : ConfigRec) (p : List Byte), p = configBytes k → k.wf →
    readConfig p = some k ∧ p.length = 16 ∧ u8At p 0 = k.configured.toNat ∧ u8At p 1 = k.stage ∧ u16At p 2 = k.period ∧
    u8At p 4 = k.gapLimit ∧ u8At p 5 = k.silenceMult ∧ u8At p 6 = k.limitSet ∧ u8At p 7 = k.policy.code ∧
    u8At p 8 = k.mode.code ∧ u8At p 9 = k.shadow.toNat ∧ u8At p 10 = k.stateReport.toNat ∧
    p.drop 11 = List.replicate 5 0

/-- The write checks of the seven record forms (R2, R39 to R43, R45, R49, R50, R102, R103, R123, R124, R156, R164). A record that
passes has every field in its range, and one written with op INVALID, valid 0 or configured 0 is stored with every other field at
its reset value. For each form, exactly which bytes pass: every other value of a code, of a flags byte, of a field that must be
0 or 1, of a target, of an operand that the op uses, of a threshold of its kind or of a ranged field is refused. A record that
passes is stored as it was carried: its bytes are those of the request, but for the bytes sent as 0, which are ignored and read
back as 0. The records of a request are its bytes in order, and one that fails its checks refuses them all. -/
def Obligations.WriteChecks : Prop :=
  ((∀ l r, readStep l = some r → r.wf) ∧ (∀ l d, readProgram l = some d → d.wf) ∧
    (∀ l g, readSegment l = some g → g.wf) ∧ (∀ l d, readProfile l = some d → d.wf) ∧
    (∀ l x, readLimit l = some x → x.wf) ∧ (∀ l k, readConfig l = some k → k.wf) ∧
    (∀ l, u8At l 0 = 0 → readStep l = some StepRecord.reset ∧ readProgram l = some ProgramDesc.reset ∧
      readProfile l = some ProfileDesc.reset ∧ readLimit l = some LimitSet.reset ∧
      readConfig l = some ConfigRec.reset)) ∧
  (∀ (l : List Byte) (op b : Nat) (a : Int), op = u8At l 0 → a = s32At l 2 → b = u16At l 6 →
    ((readStep l).isSome = true ↔ op = 0 ∨
      (op ∈ [1, 2, 3, 4, 5, 8, 9, 10, 11, 12] ∧ u8At l 1 ≤ 3 ∧ (op = 2 → -32768 ≤ a ∧ a ≤ 32767) ∧
        (op = 3 → -2000000 ≤ a ∧ a ≤ 2000000) ∧ (op = 4 → 1 ≤ a ∧ a ≤ 32767 ∧ 1 ≤ b ∧ 1 ≤ u8At l 8) ∧
        (op = 5 → b ≤ 31) ∧ (op = 8 → 0 ≤ a ∧ a ≤ 65535 ∧ b ≤ 1023) ∧ (op = 10 → b ≤ 63) ∧
        ∀ i kind : Nat, i ∈ [11, 18, 25] → kind = u8At l i / 16 →
          kind ≤ 8 ∧ u8At l i % 16 ≤ 4 ∧ u16At l (i + 1) ≤ 1023 ∧ (kind = 0 → u32At l (i + 3) = 0) ∧
          (kind ∈ [1, 2, 8] → u32At l (i + 3) ≤ 65535) ∧ (kind = 3 → u32At l (i + 3) ≤ 32768) ∧
          (kind = 7 → -32767 ≤ s32At l (i + 3) ∧ s32At l (i + 3) ≤ 32767)))) ∧
  (∀ l : List Byte, (readProgram l).isSome = true ↔ u8At l 0 = 0 ∨
    (u8At l 0 = 1 ∧ u8At l 1 ≤ 3 ∧ u16At l 2 ≤ 1023 ∧ 1 ≤ u16At l 4 ∧ u16At l 4 ≤ 1024 ∧ u16At l 2 + u16At l 4 ≤ 1024 ∧
      u16At l 6 ≤ 32767 ∧ u16At l 8 ≤ 32767)) ∧
  (∀ l : List Byte, (readSegment l).isSome = true ↔ 1 ≤ u16At l 2) ∧
  (∀ l : List Byte, (readProfile l).isSome = true ↔ u8At l 0 = 0 ∨
    (u8At l 0 = 1 ∧ u8At l 1 ≤ 1 ∧ u16At l 2 ≤ 2047 ∧ 1 ≤ u16At l 4 ∧ u16At l 4 ≤ 2048 ∧
      u16At l 2 + u16At l 4 ≤ 2048)) ∧
  (∀ (l : List Byte) (vMin vMax vSoftMin vSoftMax : Nat) (tMin tMax tSoft : Int), vMin = u16At l 2 → vMax = u16At l 4 →
    tMin = s16At l 8 → tMax = s16At l 10 → vSoftMin = u16At l 12 → vSoftMax = u16At l 14 → tSoft = s16At l 16 →
    ((readLimit l).isSome = true ↔ u8At l 0 = 0 ∨
      (u8At l 0 = 1 ∧ u8At l 1 ≤ 1 ∧ u16At l 6 ≤ 32768 ∧ -32767 ≤ tMin ∧ -32767 ≤ tMax ∧ -32767 ≤ tSoft ∧ vMin < vMax ∧
        vSoftMin < vSoftMax ∧ vMin ≤ vSoftMin ∧ vSoftMax ≤ vMax ∧ tMin < tMax ∧ tMin < tSoft ∧ tSoft ≤ tMax))) ∧
  (∀ l : List Byte, (readAccept l).isSome = true ↔ u8At l 0 % 16 ≤ 1 ∧ u8At l 0 / 16 ≤ 2 ∧ u8At l 3 ≤ 31) ∧
  (∀ l : List Byte, (readConfig l).isSome = true ↔ u8At l 0 = 0 ∨
    (u8At l 0 = 1 ∧ u8At l 1 ≤ 63 ∧ 1 ≤ u16At l 2 ∧ u16At l 2 ≤ 10000 ∧ 1 ≤ u8At l 4 ∧ u8At l 4 ≤ 16 ∧ 2 ≤ u8At l 5 ∧
      u8At l 5 ≤ 64 ∧ u8At l 6 ≤ 15 ∧ u8At l 7 ≤ 3 ∧ u8At l 8 ≤ 1 ∧ u8At l 9 ≤ 1 ∧ u8At l 10 ≤ 1)) ∧
  ((∀ l r, l.length = 32 → u8At l 0 ≠ 0 → readStep l = some r → stepBytes r = l) ∧
    (∀ l d, l.length = 12 → u8At l 0 ≠ 0 → readProgram l = some d → programBytes d = l.take 10 ++ List.replicate 2 0) ∧
    (∀ l g, l.length = 4 → readSegment l = some g → segmentBytes g = l) ∧
    (∀ l d, l.length = 6 → u8At l 0 ≠ 0 → readProfile l = some d → profileBytes d = l) ∧
    (∀ l x, l.length = 24 → u8At l 0 ≠ 0 → readLimit l = some x → limitBytes x = l.take 20 ++ List.replicate 4 0) ∧
    (∀ l e, l.length = 4 → readAccept l = some e → acceptBytes e = l) ∧
    (∀ l k, l.length = 16 → u8At l 0 ≠ 0 → readConfig l = some k → configBytes k = l.take 11 ++ List.replicate 5 0)) ∧
  ∀ (α : Type) (read : List Byte → Option α) (size n : Nat) (l : List Byte),
    (readRecords read size n l = none ↔ ∃ i, i < n ∧ read ((l.drop (i * size)).take size) = none) ∧
    ∀ rs, readRecords read size n l = some rs →
      rs.length = n ∧ ∀ i, i < n → rs[i]? = read ((l.drop (i * size)).take size)

/-- The start of READ_TABLE and WRITE_TABLE of the four tables behind the table port (R43, R45, R49, R50, R55, R160, R162,
R163): the checks in their order, and the request in execution with its accesses to make. -/
def Obligations.PortRequestsStart : Prop :=
  ∀ (s : State) (r : Request) (rest : List Request), s.executes r rest →
    (∀ x : Instr × RequestRow × PortTable,
      x ∈ [(.readTableStep, .readTableStep, .step), (.readTableProgram, .readTableProgram, .program),
        (.readTableProfileSeg, .readTableProfileSeg, .segment), (.readTableProfile, .readTableProfile, .profile)] →
      r.row = x.2.1 →
      exec x.1 s = .next
        (if r.args.length ≠ 4 then s.answered r rest .badLength []
         else if 1 ≤ u8At r.args 3 ∧ u8At r.args 3 ≤ x.2.2.perRequest ∧ u16At r.args 1 + u8At r.args 3 ≤ x.2.2.size then
           { s with job := some { table := x.2.2, write := false, index := u16At r.args 1, left := u8At r.args 3,
                                  data := [], out := [] } }
         else s.answered r rest .badArgument [])) ∧
    ∀ x : Instr × RequestRow × PortTable,
      x ∈ [(.writeTableStep, .writeTableStep, .step), (.writeTableProgram, .writeTableProgram, .program),
        (.writeTableProfileSeg, .writeTableProfileSeg, .segment), (.writeTableProfile, .writeTableProfile, .profile)] →
      r.row = x.2.1 →
      exec x.1 s = .next
        (if r.args.length < 4 ∨ r.args.length ≠ 4 + u8At r.args 3 * x.2.2.recSize then s.answered r rest .badLength []
         else if 1 ≤ u8At r.args 3 ∧ u16At r.args 1 + u8At r.args 3 ≤ x.2.2.size ∧
             ∀ i, i < u8At r.args 3 →
               let rec_ := ((r.args.drop 4).drop (i * x.2.2.recSize)).take x.2.2.recSize
               (match x.2.2 with
                | .step => (readStep rec_).isSome
                | .program => (readProgram rec_).isSome
                | .segment => (readSegment rec_).isSome
                | .profile => (readProfile rec_).isSome) = true then
           { s with job := some { table := x.2.2, write := true, index := u16At r.args 1, left := u8At r.args 3,
                                  data := r.args.drop 4, out := [] } }
         else s.answered r rest .badArgument [])

/-- A management access completes (R52, R53, R55): a read returns the record as it stands and changes no table, a write
replaces the one record whole and leaves every other as it was, and after the last access the answer is placed. -/
def Obligations.AccessesComplete : Prop :=
  ∀ (s : State) (j : TableJob) (r : Request) (rest : List Request), s.resetN = true → s.port = .access →
    s.job = some j → s.requests = r :: rest → s.tablesWf → s.jobOk →
    (j.write = false →
      exec .managementAccessComplete s = .next
        (if j.left = 1 then
          { s with port := .free, job := none, requests := rest
                   answers := s.answers ++ [{ tag := r.tag, code := r.code, status := .ok,
                                              results := j.out ++ s.portBytes j.table j.index, resets := false }] }
         else
          { s with port := .free
                   job := some { j with index := j.index + 1, left := j.left - 1
                                        data := j.data.drop j.table.recSize
                                        out := j.out ++ s.portBytes j.table j.index } })) ∧
    (j.write = true → ∃ t : State, exec .managementAccessComplete s = .next t ∧
      t = { s with
        port := .free, stepTable := t.stepTable, programTable := t.programTable, segmentTable := t.segmentTable
        profileTable := t.profileTable
        job := if j.left = 1 then none
          else some { j with index := j.index + 1, left := j.left - 1, data := j.data.drop j.table.recSize }
        requests := if j.left = 1 then rest else s.requests
        answers := if j.left = 1 then
            s.answers ++ [{ tag := r.tag, code := r.code, status := .ok, results := j.out, resets := false }]
          else s.answers } ∧
      (∀ x, j.table = .step → readStep (j.data.take 32) = some x → ∀ i,
        t.stepRec i = if i = j.index then x else s.stepRec i) ∧
      (j.table ≠ .step → t.stepTable = s.stepTable) ∧
      (∀ x, j.table = .program → readProgram (j.data.take 12) = some x → ∀ i,
        t.programDesc i = if i = j.index then x else s.programDesc i) ∧
      (j.table ≠ .program → t.programTable = s.programTable) ∧
      (∀ x, j.table = .segment → readSegment (j.data.take 4) = some x → ∀ i,
        t.segment i = if i = j.index then x else s.segment i) ∧
      (j.table ≠ .segment → t.segmentTable = s.segmentTable) ∧
      (∀ x, j.table = .profile → readProfile (j.data.take 6) = some x → ∀ i,
        t.profileDesc i = if i = j.index then x else s.profileDesc i) ∧
      (j.table ≠ .profile → t.profileTable = s.profileTable))

/-- The free table port starts one access at a time (R63, R64): with one kind waiting that kind, with both the kind it did
not start last. A fetch takes the head channel of the step fetch queue; it finds the chain limit first, then an index beyond
the limit, and otherwise reads the record at base plus index and counts it. -/
def Obligations.PortAlternation : Prop :=
  (∀ (s : State) (c : ChanId) (rest : List ChanId) (k : DescCache), s.resetN = true → s.dueRequest = none →
    s.port = .free → s.fetchQueue = c :: rest → (s.job = none ∨ s.portLast = .management) →
    (s.chan c).seq.cache = some k →
    exec .fetchStart s = .next
      (if 16 ≤ (s.chan c).seq.chain then
        { s with fetchQueue := rest, port := .fetch c .chain true, portLast := .fetch }
       else if k.limit ≤ (s.chan c).seq.index then
        { s with fetchQueue := rest, port := .fetch c .bound true, portLast := .fetch }
       else
        { s with
          fetchQueue := rest, port := .fetch c (.read (k.base + (s.chan c).seq.index)) true, portLast := .fetch
          channels := s.channels.set c.val { s.chan c with
            seq := { (s.chan c).seq with chain := (s.chan c).seq.chain + 1 } } })) ∧
  ∀ (s : State) (j : TableJob), s.resetN = true → s.port = .free → s.job = some j →
    (s.fetchQueue = [] ∨ s.portLast = .fetch) →
    exec .managementAccessStart s = .next { s with port := .access, portLast := .management }

/-! ## Transitions and steps (Section 4) -/

/-- A fetch completes for a transition that is over (R64): its outcome is discarded, and only the port is freed. For a live
one that met the chain limit or the bound, or a record that stops the transition, the program fault CHAIN, BOUND or
STEP_INVALID is entered and recorded, ZERO is offered, and the channel is HELD with resume point FAULT and no transition
(R42, R64, R71, R121); the position, the stack and the accumulators stay. -/
def Obligations.FetchStops : Prop :=
  ∀ (s : State) (c : ChanId) (o : FetchOutcome), s.resetN = true → s.dueRequest = none →
    (s.port = .fetch c o false → exec .fetchComplete s = .next { s with port := .free }) ∧
    ∀ f : Cause, s.port = .fetch c o true →
      ((o = .chain ∧ f = .chain) ∨ (o = .bound ∧ f = .bound) ∨
        ∃ i, o = .read i ∧ (s.stepRec i).op = .invalid ∧ f = .stepInvalid) →
      exec .fetchComplete s = .next { s.after c
        { s.chan c with
          state := .held, seq := (s.chan c).seq.dropped (s.chan c).seq.stepCopy .fault
          sup := { (s.chan c).sup with fault := s.entered c (FaultEntry.bare f) }
          sp := s.slot c .zero 0 s.nextSince }
        1 (s.faultBodyOf c (FaultEntry.bare f) .programFault ::
          s.stateBody c (s.chan c).state .held (s.chan c).sup.level .programFault) with port := .free }

/-- Control records met by a live fetch. LOOP (R66) skips its body for count 0, pushes a frame otherwise, and stops with
STEP_INVALID, BOUND or STACK_OVERFLOW in that order; ENDLOOP (R31, R67) needs the LOOP frame of its own index, counts and
records a cycle under the cycle flag, resets the cycle accumulators, and goes back to the start index until no pass
remains. -/
def Obligations.LoopRecords : Prop :=
  ∀ (s : State) (c : ChanId) (i : Nat) (q : Sequencing), s.resetN = true → s.dueRequest = none →
    s.port = .fetch c (.read i) true → q = (s.chan c).seq →
    ((s.stepRec i).op = .loop →
      exec .fetchComplete s = .next
        (if (s.stepRec i).b ≤ q.index then { s with port := .free }.programFault c .stepInvalid
         else if q.limit ≤ (s.stepRec i).b then { s with port := .free }.programFault c .bound
         else if (s.stepRec i).a = 0 then
          { s with
            port := .free, fetchQueue := s.fetchQueue ++ [c]
            channels := s.channels.set c.val { s.chan c with seq := { q with index := (s.stepRec i).b + 1 } } }
         else if 8 ≤ q.stack.length then
          ({ s with
            port := .free
            channels := s.channels.set c.val { s.chan c with seq := { q with stackOverflow := true } } } : State).programFault
              c .stackOverflow
         else
          { s with
            port := .free, fetchQueue := s.fetchQueue ++ [c]
            channels := s.channels.set c.val { s.chan c with
              seq := { q with
                index := q.index + 1
                stack := .loopFrame (q.index + 1) (s.stepRec i).b (s.stepRec i).a.toNat (s.stepRec i).cycle ::
                  q.stack } } })) ∧
    ((s.stepRec i).op = .endloop → (∀ start n cy rest, q.stack ≠ .loopFrame start q.index n cy :: rest) →
      exec .fetchComplete s = .next ({ s with port := .free }.programFault c .nesting)) ∧
    ∀ start n cy rest, (s.stepRec i).op = .endloop → q.stack = .loopFrame start q.index n cy :: rest →
      exec .fetchComplete s = .next { s.after c
        { s.chan c with
          acct := if cy then
              { (s.chan c).acct with qcIn := 0, qcOut := 0, ecIn := 0, ecOut := 0, tc := 0 }
            else (s.chan c).acct
          seq := { q with
            cycleCount := if cy then min 4294967295 (q.cycleCount + 1) else q.cycleCount
            stack := if 1 < n then .loopFrame start q.index (n - 1) cy :: rest else rest
            index := if 1 < n then start else q.index + 1 } }
        0 (if cy then [.cycleEnd (cycleEndBody (s.chan c).acct (min 4294967295 (q.cycleCount + 1)))] else [])
        with port := .free, fetchQueue := s.fetchQueue ++ [c] }

/-- CALL, RETURN and END records met by a live fetch (R47, R68 to R70): CALL pushes the caller and loads the called
descriptor as it stands now, RETURN drops the open loops and reloads the caller's, and END makes the channel COMPLETE. -/
def Obligations.CallReturnEndRecords : Prop :=
  ∀ (s : State) (c : ChanId) (i : Nat) (r : StepRecord) (q : Sequencing), s.resetN = true → s.dueRequest = none →
    s.port = .fetch c (.read i) true → r = s.stepRec i → q = (s.chan c).seq →
    (r.op = .call →
      exec .fetchComplete s = .next
        (if (s.programDesc r.b).valid = false then { s with port := .free }.programFault c .descriptorInvalid
         else if 8 ≤ q.stack.length then
          ({ s with
            port := .free
            channels := s.channels.set c.val { s.chan c with seq := { q with stackOverflow := true } } } : State).programFault
              c .stackOverflow
         else
          { s with
            port := .free, fetchQueue := s.fetchQueue ++ [c]
            channels := s.channels.set c.val { s.chan c with
              seq := { q with
                selector := r.b, index := 0, cache := some (s.programDesc r.b).toCache
                stack := .callFrame q.selector (q.index + 1) :: q.stack } } })) ∧
    (r.op = .ret → (∀ f, f ∈ q.stack → ∀ sel idx, f ≠ .callFrame sel idx) →
      exec .fetchComplete s = .next
        (({ s with
          port := .free
          channels := s.channels.set c.val { s.chan c with seq := { q with stackUnderflow := true } } } : State).programFault
            c .stackUnderflow)) ∧
    (∀ loops sel idx rest, r.op = .ret → q.stack = loops ++ .callFrame sel idx :: rest →
      (∀ f, f ∈ loops → ∀ a b, f ≠ .callFrame a b) →
      exec .fetchComplete s = .next
        (if (s.programDesc sel).valid = false then { s with port := .free }.programFault c .descriptorInvalid
         else
          { s with
            port := .free, fetchQueue := s.fetchQueue ++ [c]
            channels := s.channels.set c.val { s.chan c with
              seq := { q with
                selector := sel, index := idx, cache := some (s.programDesc sel).toCache, stack := rest } } })) ∧
    (r.op = .endProgram →
      exec .fetchComplete s = .next { s.after c
        { s.chan c with
          state := .complete
          seq := { q with
            stack := [], inFlight := false, holdPending := none, resume := .none, chain := 0, pendingEval := none } }
        0 (s.stateBody c (s.chan c).state .complete (s.chan c).sup.level .endProgram) with port := .free })

/-- A drive record met by a live fetch (R65, R79, R80, R86): a charge or discharge current or a CCCV step without the
authority of the cache, or a PROFILE step without a valid descriptor, stops with STEP_INVALID; with hold-pending set the
channel is HELD with resume point TRANSITION; otherwise the record becomes the step, the regulator value starts, and a
delivery waiting in the pending-evaluation slot is evaluated. -/
def Obligations.DriveRecords : Prop :=
  ∀ (s : State) (c : ChanId) (i : Nat) (r : StepRecord) (k : DescCache) (q : Sequencing) (u : State), s.resetN = true →
    s.dueRequest = none → s.port = .fetch c (.read i) true → r = s.stepRec i → q = (s.chan c).seq → q.cache = some k →
    (r.op = .rest ∨ r.op = .cc ∨ r.op = .cp ∨ r.op = .cccv ∨ r.op = .profile) →
    u = { s with
      port := .free
      channels := s.channels.set c.val { s.chan c with
        seq := { q with
          stepCopy := some r, peak := none, ordinal := 0, segStart := 0, phase := .cc, chain := 0, inFlight := false,
          pendingEval := none }
        sp := { (s.chan c).sp with regulator := if r.op = .cccv then r.a else 0 } } } →
    exec .fetchComplete s = .next
      (if (r.op = .cc ∧ (0 < r.a ∧ k.allowCharge = false ∨ r.a < 0 ∧ k.allowDischarge = false)) ∨
          (r.op = .cccv ∧ k.allowCharge = false) ∨ (r.op = .profile ∧ (s.profileDesc r.b).valid = false) then
        { s with port := .free }.programFault c .stepInvalid
       else
        match q.holdPending with
        | some h =>
          { s.after c
            { s.chan c with
              state := .held
              seq := { q with
                stepCopy := none, inFlight := false, chain := 0, resume := .transition, pendingEval := none
                holdPending := none }
              sp := s.slot c .zero 0 s.nextSince }
            1 (s.stateBody c (s.chan c).state .held (s.chan c).sup.level
              (match h with
               | .command => .command
               | .program => .programHold)) with port := .free }
        | none =>
          match q.pendingEval with
          | none => u
          | some d => u.evaluate c d)

/-- An evaluation whose terminator fires (R73 to R75): the first slot that is satisfied and tested ends the step, its STEP_END
record is offered first, and a transition to the continuation index begins with the accumulators reset and ZERO offered, or
END makes the channel COMPLETE. A BREAK without a LOOP frame on top is the fault NESTING; that the transition's ZERO and the
fault's are then both offered, so that the slot counts SUPERSEDED for each pending frame, is the model's deduction
(notes/assumptions/14.md). -/
def Obligations.TerminatorActions : Prop :=
  ∀ (s : State) (c : ChanId) (d : Delivery) (r : StepRecord) (cause : EndCause) (tm : Terminator) (q : Sequencing),
    q = (s.chan c).seq → q.stepCopy = some r → q.grace = false →
    firedSlot r d (s.chan c).acct (peakWith q.peak d.v) = some (cause, tm) →
    ∀ go : Nat → Option HoldKind → List StackFrame → State,
      go = (fun x hp st => { s.after c
        (({ s.chan c with seq := { q with stack := st } } : Channel).begun x hp (s.slot c .zero 0 s.nextSince))
        1 (s.stepEndBodies c cause d.v d.i d.t) with fetchQueue := s.fetchQueue ++ [c] }) →
      (tm.action = .next → s.evaluate c d = go (q.index + 1) none q.stack) ∧
      (tm.action = .goto → s.evaluate c d = go tm.target none q.stack) ∧
      (tm.action = .hold → s.evaluate c d = go (q.index + 1) (some .program) q.stack) ∧
      (∀ start finish n cy rest, tm.action = .brk → q.stack = .loopFrame start finish n cy :: rest →
        s.evaluate c d = go (finish + 1) none rest) ∧
      (tm.action = .brk → (∀ start finish n cy rest, q.stack ≠ .loopFrame start finish n cy :: rest) →
        ∀ z : SpFrame, z = { stage := (s.cfg c).stage, command := .zero, current := 0, rep := false, final := false } →
        s.evaluate c d = s.after c
          { s.chan c with
            state := .held, acct := { (s.chan c).acct with qs := 0, es := 0, ts := 0 }
            seq := { q.dropped none .fault with peak := none, ordinal := 0, segStart := 0 }
            sup := { (s.chan c).sup with fault := s.entered c (FaultEntry.bare .nesting) }
            sp := if (s.cfg c).shadow then (s.chan c).sp
              else ((s.chan c).sp.offer z s.nextSince).offer z (s.nextSince + 1) }
          2 (s.stepEndBodies c cause d.v d.i d.t ++
            s.faultBodyOf c (FaultEntry.bare .nesting) .programFault ::
              s.stateBody c (s.chan c).state .held (s.chan c).sup.level .programFault)) ∧
      (tm.action = .endProgram → s.evaluate c d = s.after c
        { s.chan c with
          state := .complete
          seq := { q with
            stepCopy := none, stack := [], resume := .none, peak := some (peakWith q.peak d.v), grace := false }
          sp := s.slot c .zero 0 s.nextSince }
        1 (s.stepEndBodies c cause d.v d.i d.t ++
          s.stateBody c (s.chan c).state .complete (s.chan c).sup.level .endProgram))

/-- The terminator tests (R73): the first of the three slots that is tested and satisfied fires; while the step time is
below the guard only a slot of kind TIME is tested; and each kind compares its quantity with the threshold, a saturated step
time satisfying every TIME slot and an absent temperature no TEMP_ABOVE slot. -/
def Obligations.TerminatorTests : Prop :=
  ∀ (r : StepRecord) (d : Delivery) (a : Accounts) (pk : Nat) (fires : Terminator → Prop),
    (∀ tm, fires tm ↔ (r.guard ≤ a.ts ∨ tm.kind = .time) ∧
      ((tm.kind = .vAbove ∧ tm.threshold ≤ d.v) ∨ (tm.kind = .vBelow ∧ (d.v : Int) ≤ tm.threshold) ∨
        (tm.kind = .iAbsBelow ∧ (d.i.natAbs : Int) ≤ tm.threshold) ∨
        (tm.kind = .time ∧ (tm.threshold ≤ a.ts ∨ a.ts = 4294967295)) ∨
        (tm.kind = .chargeAbs ∧ tm.threshold ≤ a.qs.natAbs) ∨ (tm.kind = .energyAbs ∧ tm.threshold ≤ a.es.natAbs) ∨
        (tm.kind = .tempAbove ∧ ((∃ x, d.t = some x ∧ tm.threshold ≤ x) ∨ ∃ x, d.aux = some x ∧ tm.threshold ≤ x)) ∨
        (tm.kind = .dvDrop ∧ tm.threshold ≤ (pk : Int) - d.v))) →
    (firedSlot r d a pk = some (.slot1, r.slot1) ↔ fires r.slot1) ∧
    (firedSlot r d a pk = some (.slot2, r.slot2) ↔ ¬ fires r.slot1 ∧ fires r.slot2) ∧
    (firedSlot r d a pk = some (.slot3, r.slot3) ↔ ¬ fires r.slot1 ∧ ¬ fires r.slot2 ∧ fires r.slot3) ∧
    (firedSlot r d a pk = none ↔ ¬ fires r.slot1 ∧ ¬ fires r.slot2 ∧ ¬ fires r.slot3)

/-- An evaluation that leaves its step executing (R73, R86 to R91, R133): the peak takes the voltage in, grace is used up,
the new regulator value is computed by the step's op and clamped to the authority of the cache, and one RUN frame is offered
with that value, halved toward zero while the level is DERATED; so its current lies within the authority. -/
def Obligations.EvaluationDrives : Prop :=
  ∀ (s : State) (c : ChanId) (d : Delivery) (r : StepRecord) (k : DescCache) (q : Sequencing) (computed reg cur : Int),
    q = (s.chan c).seq → q.stepCopy = some r → q.cache = some k → r.op ≠ .profile →
    (q.grace = true ∨ firedSlot r d (s.chan c).acct (peakWith q.peak d.v) = none) →
    computed =
      (match r.op with
       | .cc => r.a
       | .cp => (1000 * r.a).tdiv (max d.v 500 : Nat)
       | .cccv => max 0 (min r.a ((s.chan c).sp.regulator + (((r.b : Int) - d.v) * r.g).fdiv 16))
       | _ => 0) →
    reg = max (-(k.idisMax : Int)) (min (k.ichgMax : Int) computed) →
    cur = (if (s.chan c).sup.level = .derated then reg.tdiv 2 else reg) →
    -(k.idisMax : Int) ≤ cur ∧ cur ≤ k.ichgMax ∧
    s.evaluate c d = s.after c
      { s.chan c with
        seq := { q with
          peak := some (peakWith q.peak d.v), grace := false
          phase := if r.op = .cccv then (if reg = r.a then .cc else .cv) else q.phase }
        sp := { s.slot c .run cur s.nextSince with regulator := reg } }
      1 []

/-- The profile cursor and its reads (R49, R51, R52, R53, R76): for a profile of at least one segment the advance stops where
the manual says it does. It never leaves the step time behind, it stops on a segment that covers the step time, with that
segment's current, and it answers that the profile has ended only under ONCE with its last segment passed; it reads each
segment once, as that segment stands then. Before each such read segment writes of a WRITE_TABLE in execution may land: none
when there is none under way, else any number of those left, at most one while a fetch waits for the port, in their order,
each record whole; the answer follows the last, and nothing else changes. The number is a free value: the statement holds for
each of its values (notes/assumptions/13.md). -/
def Obligations.ProfileCursorLands : Prop :=
  (∀ (s : State) (d : ProfileDesc) (ts o start : Nat), 1 ≤ d.count →
    ∀ res : CursorMove, res = profileAdvance d ts (profileFuel ts start) s o start →
    start ≤ res.start ∧ (start ≤ ts → res.start ≤ ts) ∧
    (res.ended = true → d.rep = .once ∧ d.count ≤ res.ordinal) ∧
    (res.ended = false → res.ordinal < d.count ∧ ∃ g, g = res.after.segment (d.first + res.ordinal) ∧
      ts < res.start + max 1 g.hold ∧ res.current = g.current) ∧
    (d.count ≤ o → d.rep = .once →
      res = { ended := true, ordinal := o, start := start, current := 0, after := s }) ∧
    (d.count ≤ o → d.rep = .wrap → res = profileAdvance d ts (profileFuel ts start) s 0 start) ∧
    ∀ (u : State) (g : Segment), u = s.betweenReads → g = u.segment (d.first + o) →
      (o < d.count → ts < start + max 1 g.hold →
        res = { ended := false, ordinal := o, start := start, current := g.current, after := u }) ∧
      (o < d.count → start + max 1 g.hold ≤ ts →
        res = profileAdvance d ts (profileFuel ts (start + max 1 g.hold)) u (o + 1) (start + max 1 g.hold))) ∧
  (∀ s : State, s.segmentWrite = none → s.betweenReads = s) ∧
  ∀ (s : State) (j : TableJob) (r : Request) (rest : List Request), s.segmentWrite = some j → s.requests = r :: rest →
    s.managementOk → s.jobOk → s.tablesWf →
    ∃ n ≤ j.left, (s.fetchQueue ≠ [] → n ≤ 1) ∧
      s.betweenReads = { s with
        readRaces := s.readRaces + 1, segmentTable := s.betweenReads.segmentTable
        port := if n = 0 then s.port else .free
        portLast := if n = 0 then s.portLast else .management
        job :=
          if n = j.left then none
          else some { j with index := j.index + n, left := j.left - n, data := j.data.drop (4 * n) }
        requests := if n = j.left then rest else s.requests
        answers :=
          if n = j.left then
            s.answers ++ [{ tag := r.tag, code := r.code, status := .ok, results := j.out, resets := false }]
          else s.answers } ∧
      ∀ i : Nat, s.betweenReads.segment i =
        if j.index ≤ i ∧ i < j.index + n then
          (readSegment ((j.data.drop (4 * (i - j.index))).take 4)).getD (s.segment i)
        else s.segment i

/-- A PROFILE evaluation whose terminators do not fire (R51, R76, R77, R87): an invalid descriptor or a profile passed under
ONCE ends the step with PROFILE_END and begins a transition to the next index, and otherwise the current of the segment under
the cursor is driven. The descriptor is read once, before the segments; what segment writes land between the reads is a free
value, and the statement holds for each of its values (notes/assumptions/13.md). -/
def Obligations.ProfileEvaluation : Prop :=
  ∀ (s u : State) (c : ChanId) (d : Delivery) (r : StepRecord) (k : DescCache) (q : Sequencing) (desc : ProfileDesc)
    (res : CursorMove) (reg : Int),
    q = (s.chan c).seq → q.stepCopy = some r → q.cache = some k → r.op = .profile → desc = s.profileDesc r.b →
    (q.grace = true ∨ firedSlot r d (s.chan c).acct (peakWith q.peak d.v) = none) →
    res = profileAdvance desc (s.chan c).acct.ts (profileFuel (s.chan c).acct.ts q.segStart) s q.ordinal q.segStart →
    reg = max (-(k.idisMax : Int)) (min (k.ichgMax : Int) res.current) →
    u = (if desc.valid then res.after else s) →
    s.evaluate c d =
      if desc.valid = false ∨ res.ended = true then
        { u.after c
          (({ s.chan c with seq := { q with grace := false } } : Channel).begun (q.index + 1) none
            (s.slot c .zero 0 s.nextSince))
          1 (s.stepEndBodies c .profileEnd d.v d.i d.t) with fetchQueue := s.fetchQueue ++ [c] }
      else u.after c
        { s.chan c with
          seq := { q with
            peak := some (peakWith q.peak d.v), grace := false, ordinal := res.ordinal, segStart := res.start }
          sp := { s.slot c .run (if (s.chan c).sup.level = .derated then reg.tdiv 2 else reg) s.nextSince with
                  regulator := reg } }
        1 []

/-! ## Setpoints and the transmitters (Sections 5.4 to 5.6, 8.5 to 8.7) -/

/-- The DN arbiter and the start of its transmission (R94, R95, R149, R150, R153): the oldest pending OPEN; the relay queue
once its wait count is 8; the oldest other pending frame; the relay queue. A setpoint frame takes the channel's next seq and
counts the relay frames it keeps waiting, a relay frame goes out as it came in and sets the count to 0. -/
def Obligations.DnTransmitStarts : Prop :=
  ∀ s : State, s.attends → s.dnTx = none →
    (∀ (c : ChanId) (f : SpFrame), (s.chan c).sp.pending = some f →
      ((f.command = .openPath ∧
          ∀ d, d ≠ c → (s.chan d).sp.pending.any (fun g => g.command == .openPath) = true →
            (s.chan c).sp.since.getD 0 < (s.chan d).sp.since.getD 0) ∨
        (f.command ≠ .openPath ∧ (s.relayWait < 8 ∨ s.relayDown = []) ∧
          (∀ d, (s.chan d).sp.pending.any (fun g => g.command == .openPath) = false) ∧
          ∀ d, d ≠ c → (s.chan d).sp.pending.isSome = true →
            (s.chan c).sp.since.getD 0 < (s.chan d).sp.since.getD 0)) →
      exec .dnTransmitStart s = .next { s with
        dnTx := some { frame := setpointFrame f (s.chan c).sp.nextSeq, channel := some c }
        relayWait := if s.relayDown = [] then s.relayWait else min 8 (s.relayWait + 1)
        channels := s.channels.set c.val { s.chan c with
          sp := { (s.chan c).sp with
            pending := none, inTx := some (f, (s.chan c).sp.nextSeq), nextSeq := (s.chan c).sp.nextSeq + 1 } } }) ∧
    (∀ (f : Frame) (rest : List Frame), s.relayDown = f :: rest →
      (∀ d, (s.chan d).sp.pending.any (fun g => g.command == .openPath) = false) →
      (8 ≤ s.relayWait ∨ ∀ d, (s.chan d).sp.pending = none) →
      exec .dnTransmitStart s = .next { s with
        relayDown := rest, relayWait := 0, dnTx := some { frame := f, channel := none } }) ∧
    (s.relayDown = [] → (∀ d, (s.chan d).sp.pending = none) → exec .dnTransmitStart s = .next s)

/-- A DN transmission completes (R94, R96, R101, R185): of a relay frame only the transmitter changes; of a setpoint frame
the slot gives it up, its content becomes the last transmitted frame and the refresh timer starts, but not in OFF or in
shadow mode; of a final ZERO the context is reset, and with the last of them INIT ends. A refresh timer expires (R97):
with the slot empty and a last transmitted frame, that frame is offered again with the repeat mark and the stage address
of now, and counted; otherwise the timer only stops. An expiry presented on another tick has no effect, by the model's
choice (notes/assumptions/3.md). -/
def Obligations.DnCompletionAndRefresh : Prop :=
  (∀ (s : State) (x : DnTx), s.attends → s.dnTx = some x →
      (x.channel = none → exec .dnTransmitComplete s = .next { s with dnTx := none }) ∧
      ∀ c : ChanId, x.channel = some c →
        ((s.chan c).sp.inTx = none → exec .dnTransmitComplete s = .next { s with dnTx := none }) ∧
        ∀ (f : SpFrame) (n : Byte), (s.chan c).sp.inTx = some (f, n) →
          (f.final = false → exec .dnTransmitComplete s = .next { s with
            dnTx := none
            channels := s.channels.set c.val { s.chan c with
              sp := { (s.chan c).sp with
                inTx := none, lastTx := some { stage := f.stage, command := f.command, current := f.current }
                refresh :=
                  if (s.chan c).state = .off ∨ (s.cfg c).shadow = true then (s.chan c).sp.refresh
                  else some (s.timeBase + BitVec.ofNat 32 (4 * (s.cfg c).period)) } } }) ∧
          (f.final = true → exec .dnTransmitComplete s = .next { s with
            dnTx := none
            channels := s.channels.set c.val { s.chan c with sp := Setpoint.reset }
            engine :=
              if s.engine = .init ∧ s.clearing = false ∧
                  ∀ d, d ≠ c → (s.chan d).sp.pending.any (fun g => g.final) = false ∧
                    (s.chan d).sp.inTx.any (fun g => g.1.final) = false then
                (if s.estopN then .ready else .estop)
              else s.engine })) ∧
  (∀ (s : State) (c : ChanId), s.attends →
      ((s.chan c).sp.refresh ≠ some s.timeBase → exec (.refreshExpiry c) s = .next s) ∧
      ((s.chan c).sp.refresh = some s.timeBase →
        (∀ f : LastTx, (s.chan c).sp.lastTx = some f → (s.chan c).sp.pending = none → (s.chan c).sp.inTx = none →
          (s.cfg c).shadow = false →
          exec (.refreshExpiry c) s = .next (s.after c
            { s.chan c with
              sp := { (s.chan c).sp with
                refresh := none, repeats := min 65535 ((s.chan c).sp.repeats + 1), since := some s.nextSince
                pending := some { stage := (s.cfg c).stage, command := f.command, current := f.current, rep := true,
                                  final := false } } }
            1 [])) ∧
        (((s.chan c).sp.lastTx = none ∨ (s.chan c).sp.pending ≠ none ∨ (s.chan c).sp.inTx ≠ none ∨
            (s.cfg c).shadow = true) →
          exec (.refreshExpiry c) s = .next { s with
            channels := s.channels.set c.val { s.chan c with sp := { (s.chan c).sp with refresh := none } } })))

/-- The UP arbiter and its transmissions (R148, R151, R159, R179): an answer first, then of the report queue and the D→U relay
queue the one not served last; the head leaves its queue, and a report or relay start moves the mark. A completion frees the
transmitter. -/
def Obligations.UpTransmissions : Prop :=
  ∀ s : State, s.attends →
    (∀ a rest, s.upTx = none → s.answers = a :: rest →
      exec .upTransmitStart s = .next { s with
        answers := rest, upTx := some { frame := answerFrame s.engineAddress a, resets := a.resets } }) ∧
    (∀ r rest, s.upTx = none → s.answers = [] → s.reports = r :: rest → (s.relayUp = [] ∨ s.upServed = .relay) →
      exec .upTransmitStart s = .next { s with
        reports := rest, upServed := .report
        upTx := some { frame := reportFrame s.engineAddress r, resets := false } }) ∧
    (∀ f rest, s.upTx = none → s.answers = [] → s.relayUp = f :: rest → (s.reports = [] ∨ s.upServed = .report) →
      exec .upTransmitStart s = .next { s with
        relayUp := rest, upServed := .relay, upTx := some { frame := f, resets := false } }) ∧
    (s.upTx = none → s.answers = [] → s.reports = [] → s.relayUp = [] → exec .upTransmitStart s = .next s) ∧
    ∀ f, s.upTx = some { frame := f, resets := false } →
      exec .upTransmitStart s = .next s ∧ exec .upTransmitComplete s = .next { s with upTx := none }

/-- The table of R93: an offer becomes pending in a slot without a pending frame and takes a place in the order; it is
discarded against a pending OPEN; it replaces a pending RUN or ZERO in that frame's place and is counted. The frame in
transmission does not take part. A record offered to the report queue (R172, R177, R178): measurement records are accepted
below 120 records and the others below 128; an accepted one joins the back with the present tick and takes the drop count
along, and a refused one is lost and counted. -/
def Obligations.SlotAndReportOffers : Prop :=
  (∀ (sp : Setpoint) (f : SpFrame) (n : Nat),
      (sp.pending = none → sp.offer f n = { sp with pending := some f, since := some n }) ∧
      (∀ p, sp.pending = some p → p.command = .openPath → sp.offer f n = sp) ∧
      (∀ p, sp.pending = some p → p.command ≠ .openPath →
        sp.offer f n = { sp with pending := some f, superseded := min 65535 (sp.superseded + 1) })) ∧
  (∀ (s : State) (c : ChanId) (b : Body) (measures : Bool),
      measures = (match b with
        | .stepEnd _ => true
        | .cycleEnd _ => true
        | .fault _ => false
        | .state _ => false) →
      ((s.reports.length < 120 ∨ (measures = false ∧ s.reports.length < 128)) →
        s.produce c b = { s with
          dropCount := 0
          reports := s.reports ++ [{ channel := c, tick := s.timeBase, body := b
                                     dropped := if s.dropCount = 0 then none else some s.dropCount }] }) ∧
      ((128 ≤ s.reports.length ∨ (measures = true ∧ 120 ≤ s.reports.length)) →
        s.produce c b = { s with dropCount := min 65535 (s.dropCount + 1) }))

/-! ## Supervision (Section 6) -/

/-- A delivery in RUNNING, HELD or COMPLETE (R108 to R110, R114): the score grows by 8 for each soft kind and saturates at 255,
or falls by 1 when the delivery is clean; the level follows, with a STATE record of reason LEVEL when the band changes; with
no hard kind and no sum above 255 nothing else changes. In HELD and COMPLETE such a cause is entered in the fault record with
a FAULT record of action RECORD_ONLY, and nothing else changes. In OFF a delivery changes nothing. -/
def Obligations.DeliveryScored : Prop :=
  (∀ (s : State) (c : ChanId) (d : Delivery) (l : LimitSet) (old n sum : Nat) (causes : List Cause) (lv : Channel)
    (lvb : List Body),
    (s.chan c).state = .running ∨ (s.chan c).state = .held ∨ (s.chan c).state = .complete → l = s.limits c →
    old = (s.chan c).sup.score → (s.chan c).sup.level = band old →
    sum = old + 8 * softCount l d → causes = hardKinds l d ++ (if 255 < sum ∧ 0 < softCount l d then [.score] else []) →
    n = (if 0 < softCount l d then min 255 sum else if hardKinds l d = [] then old - 1 else old) →
    lv = { s.chan c with sup := { (s.chan c).sup with score := n, level := band n } } →
    lvb = (if band n = band old then [] else s.stateBody c (s.chan c).state (s.chan c).state (band n) .level) →
    (causes = [] → s.supervise c d = s.after c lv 0 lvb) ∧
    ((s.chan c).state ≠ .running → ∀ h t, causes = h :: t → ∀ e : FaultEntry,
      e = { lead := h, others := t, vi := some (d.v, d.i), t := entryTemp l d h } →
      s.supervise c d = s.after c { lv with sup := { lv.sup with fault := s.entered c e } } 0
        (lvb ++ [s.faultBodyOf c e .recordOnly]))) ∧
  ∀ (s : State) (c : ChanId) (d : Delivery), (s.chan c).state = .off → s.supervise c d = s

/-- What becomes of a RUNNING channel's delivery. One that trips it (R72, R83, R108, R112, R113): after the score update the
fault is entered and a FAULT record of action TRIP produced, the transition or step is given up, OPEN is offered, and the
channel is ISOLATED, or HELD under HOLD_AT_TRIP; the sequencer then does nothing with the delivery. The sequencer's part (R72,
R78), by the state that the supervisor has left: in RUNNING with a transition in flight the delivery enters the
pending-evaluation slot or replaces the one there, which LOST_EVAL counts, saturating at 65535; in RUNNING without one it is
evaluated; in any other state nothing is done with it. -/
def Obligations.DeliveryTrips : Prop :=
  (∀ (s : State) (c : ChanId) (d : Delivery) (l : LimitSet) (old n sum : Nat) (h : Cause) (t : List Cause)
    (e : FaultEntry) (u : State) (lvb : List Body),
    (s.chan c).state = .running → l = s.limits c → old = (s.chan c).sup.score → (s.chan c).sup.level = band old →
    sum = old + 8 * softCount l d →
    h :: t = hardKinds l d ++ (if 255 < sum ∧ 0 < softCount l d then [.score] else []) →
    n = (if 0 < softCount l d then min 255 sum else old) →
    e = { lead := h, others := t, vi := some (d.v, d.i), t := entryTemp l d h } →
    lvb = (if band n = band old then [] else s.stateBody c .running .running (band n) .level) →
    u = { s.after c
      { s.tripped c e s.nextSince with
        sup := { (s.tripped c e s.nextSince).sup with score := n, level := band n } }
      1 (lvb ++ s.faultBodyOf c e .trip :: s.stateBody c .running (s.tripState c) (band n) .trip) with
      fetchQueue := s.fetchWithout c, port := s.port.abandon c } →
    s.supervise c d = u ∧ u.sequence c d = u) ∧
  ∀ (s : State) (c : ChanId) (d : Delivery) (q : Sequencing), q = (s.chan c).seq →
    ((s.chan c).state = .running → q.inFlight = true → s.sequence c d = s.after c
      { s.chan c with
        seq := { q with
          pendingEval := some d
          lostEval := if q.pendingEval = none then q.lostEval else min 65535 (q.lostEval + 1) } }
      0 []) ∧
    ((s.chan c).state = .running → q.inFlight = false → s.sequence c d = s.evaluate c d) ∧
    ((s.chan c).state ≠ .running → s.sequence c d = s)

/-- A delivery taken in ISOLATED (R114, R116, R117): a hard kind is entered, sets the hard mark and restarts the recovery; a
soft kind restarts it; a clean one counts while the engine is READY and changes nothing in ESTOP; and the 64th in a row
completes the recovery, after which the channel is HELD, or RUNNING with a transition from its position under AUTO and
CONTROLLER without a hard mark. That a return to RUNNING leaves the resume point as it stands is the model's deduction
(notes/assumptions/10.md). -/
def Obligations.DeliveryIsolated : Prop :=
  ∀ (s : State) (c : ChanId) (d : Delivery) (l : LimitSet) (u : Supervision), (s.chan c).state = .isolated →
    l = s.limits c → u = (s.chan c).sup →
    (∀ h t, hardKinds l d = h :: t →
      s.supervise c d = s.after c
        { s.chan c with
          sup := { u with
            recovery := 0, hardMark := true
            fault := s.entered c { lead := h, others := t, vi := some (d.v, d.i), t := entryTemp l d h } } } 0 []) ∧
    (hardKinds l d = [] → 0 < softCount l d →
      s.supervise c d = s.after c { s.chan c with sup := { u with recovery := 0 } } 0 []) ∧
    (hardKinds l d = [] → softCount l d = 0 → s.engine = .estop → s.supervise c d = s) ∧
    (hardKinds l d = [] → softCount l d = 0 → s.engine = .ready →
      (u.recovery < 63 → s.supervise c d = s.after c
        { s.chan c with sup := { u with recovery := u.recovery + 1 } } 0 []) ∧
      (63 ≤ u.recovery → ∀ ch : Channel,
        ch = { s.chan c with sup := { u with score := 0, level := .normal, recovery := 0, hardMark := false } } →
        s.supervise c d =
          if u.hardMark = false ∧ ((s.cfg c).policy = .auto ∨ (s.cfg c).policy = .controller) then
            { s.after c
              ({ ch with state := .running }.begun ch.seq.index none (s.slot c .zero 0 s.nextSince))
              1 (s.stateBody c .isolated .running .normal .recovered) with fetchQueue := s.fetchQueue ++ [c] }
          else s.after c { ch with state := .held } 0 (s.stateBody c .isolated .held .normal .recovered)))

/-- A PLAUSIBILITY event (R111): 8 is added to the score in RUNNING, HELD and COMPLETE, with SCORE raised by a sum above 255 as
an entry without sample values; in ISOLATED it restarts the recovery, and in OFF it has no effect. -/
def Obligations.PlausibilityEvents : Prop :=
  ∀ (s : State) (c : ChanId) (st : ChState) (old n : Nat) (lvb : List Body), st = (s.chan c).state →
    old = (s.chan c).sup.score → (s.chan c).sup.level = band old → n = min 255 (old + 8) →
    lvb = (if band n = band old then [] else s.stateBody c st st (band n) .level) →
    (st = .off → s.plausibility c = s) ∧
    (st = .isolated → s.plausibility c =
      s.after c { s.chan c with sup := { (s.chan c).sup with recovery := 0 } } 0 []) ∧
    (st ≠ .off → st ≠ .isolated → old ≤ 247 → s.plausibility c =
      s.after c { s.chan c with sup := { (s.chan c).sup with score := n, level := band n } } 0 lvb) ∧
    (st = .running → 248 ≤ old → s.plausibility c = { s.after c
      { s.tripped c (FaultEntry.bare .score) s.nextSince with
        sup := { (s.tripped c (FaultEntry.bare .score) s.nextSince).sup with score := n, level := band n } }
      1 (lvb ++ s.faultBodyOf c (FaultEntry.bare .score) .trip ::
        s.stateBody c .running (s.tripState c) (band n) .trip) with
      fetchQueue := s.fetchWithout c, port := s.port.abandon c }) ∧
    (st = .held ∨ st = .complete → 248 ≤ old → s.plausibility c = s.after c
      { s.chan c with
        sup := { (s.chan c).sup with
          score := n, level := band n, fault := s.entered c (FaultEntry.bare .score) } }
      0 (lvb ++ [s.faultBodyOf c (FaultEntry.bare .score) .recordOnly]))

/-- The hard kinds of a delivery (R106): STUCK, V_HARD, I_HARD, T_HARD and TEMP_MISSING, each exactly when its condition
holds against the channel's limit set, and listed in the order in which they lead. An entry in the fault record (R119,
R120): the first one since the record was empty fills the first-fault items and every one counts; under FIRST only that
entry's leading cause is in the cause set, under ACCUMULATE every cause is added. The soft kinds are counted (R107): GAP,
CADENCE, OVERRANGE, V_SOFT and T_SOFT, each once. The level of a score (R110): NORMAL up to 63, WARNING up to 127, DERATED
from 128. The temperature of an entry made on a delivery (R119): for T_HARD the one outside the hard bounds, the primary one
when both are, and otherwise the primary T. -/
def Obligations.HardKindsAndFaultEntries : Prop :=
  (∀ (l : LimitSet) (d : Delivery),
      (hardKinds l d).Sublist [.stuck, .vHard, .iHard, .tHard, .tempMissing] ∧
      (.stuck ∈ hardKinds l d ↔ d.stuck = true) ∧
      (.vHard ∈ hardKinds l d ↔ d.v < l.vHardMin ∨ l.vHardMax < d.v) ∧
      (.iHard ∈ hardKinds l d ↔ l.iHardMax < d.i.natAbs) ∧
      (.tHard ∈ hardKinds l d ↔ ∃ x, (d.t = some x ∨ d.aux = some x) ∧ (x < l.tHardMin ∨ l.tHardMax < x)) ∧
      (.tempMissing ∈ hardKinds l d ↔ l.tRequired = true ∧ d.t = none ∧ d.aux = none)) ∧
  (∀ (r : FaultRecord) (e : FaultEntry) (pos : Nat × Nat) (now : Tick) (x : FaultRecord) (mode : FaultMode),
      x = r.enter e mode pos now →
      x.count = min 65535 (r.count + 1) ∧
      (r.first = none → x.first = some e.lead ∧ x.firstPos = some pos ∧ x.firstAt = some now ∧ x.firstVI = e.vi ∧
        x.firstT = e.t) ∧
      (r.first ≠ none → x.first = r.first ∧ x.firstPos = r.firstPos ∧ x.firstAt = r.firstAt ∧ x.firstVI = r.firstVI ∧
        x.firstT = r.firstT ∧ (mode = .first → x.causes = r.causes)) ∧
      (r.first = none → mode = .first → ∀ y, y ∈ x.causes ↔ y ∈ r.causes ∨ y = e.lead) ∧
      (mode = .accumulate → ∀ y, y ∈ x.causes ↔ y ∈ r.causes ∨ y = e.lead ∨ y ∈ e.others)) ∧
  (∀ (l : LimitSet) (d : Delivery) (vs ts : Bool),
      (vs = true ↔ d.v < l.vSoftMin ∨ l.vSoftMax < d.v) →
      (ts = true ↔ ∃ x, (d.t = some x ∨ d.aux = some x) ∧ l.tSoftMax < x) →
      softCount l d = d.gap.toNat + d.cadence.toNat + d.overrange.toNat + vs.toNat + ts.toNat) ∧
  (∀ n : Nat, (band n = .normal ↔ n ≤ 63) ∧ (band n = .warning ↔ 64 ≤ n ∧ n ≤ 127) ∧ (band n = .derated ↔ 128 ≤ n)) ∧
  ∀ (l : LimitSet) (d : Delivery) (h : Cause) (out : Int → Prop), (∀ x, out x ↔ x < l.tHardMin ∨ l.tHardMax < x) →
      (h ≠ .tHard → entryTemp l d h = d.t) ∧
      (∀ x, d.t = some x → out x → entryTemp l d .tHard = some x) ∧
      (∀ y, (∀ x, d.t = some x → ¬ out x) → d.aux = some y → out y → entryTemp l d .tHard = some y)

/-- A silence timer expires (R12, R13, R115): the reference, the last arrival and the last sample are forgotten and the timer
stops; a RUNNING channel trips with cause SILENCE, in HELD and COMPLETE the fault is recorded only, and in ISOLATED it restarts
the recovery and sets the hard mark. An expiry presented on another tick has no effect, by the model's choice
(notes/assumptions/3.md). -/
def Obligations.SilenceExpires : Prop :=
  ∀ (s : State) (c : ChanId) (e : FaultEntry) (tr : Tracking), s.attends → e = FaultEntry.bare .silence →
    tr = { (s.chan c).track with reference := none, lastArrival := none, lastPrimary := none, silence := none } →
    ((s.chan c).track.silence ≠ some s.timeBase → exec (.silenceExpiry c) s = .next s) ∧
    ((s.chan c).track.silence = some s.timeBase →
      ((s.chan c).state = .running → exec (.silenceExpiry c) s = .next { s.after c
        { s.tripped c e s.nextSince with track := tr }
        1 (s.faultBodyOf c e .trip ::
          s.stateBody c .running (s.tripState c) (s.chan c).sup.level .trip) with
        fetchQueue := s.fetchWithout c, port := s.port.abandon c }) ∧
      ((s.chan c).state = .held ∨ (s.chan c).state = .complete → exec (.silenceExpiry c) s = .next (s.after c
        { s.chan c with track := tr, sup := { (s.chan c).sup with fault := s.entered c e } }
        0 [s.faultBodyOf c e .recordOnly])) ∧
      ((s.chan c).state = .isolated → exec (.silenceExpiry c) s = .next (s.after c
        { s.chan c with
          track := tr
          sup := { (s.chan c).sup with recovery := 0, hardMark := true, fault := s.entered c e } }
        0 [])) ∧
      ((s.chan c).state = .off → exec (.silenceExpiry c) s = .next (s.after c { s.chan c with track := tr } 0 [])))

/-! ## Channel commands (Section 7.4) -/

/-- CONFIGURE (R6, R124, R129): with fields in their ranges it is refused outside OFF, then for an invalid limit set of a
record with configured 1; accepted, it replaces the channel's record whole and resets its source tracking, and nothing else. -/
def Obligations.ConfigureCommand : Prop :=
  ∀ (s : State) (r : Request) (rest : List Request) (c : ChanId) (k : ConfigRec), s.executes r rest →
    r.row = .configure → r.commands c 16 → readConfig (r.args.drop 2) = some k → s.tablesWf →
    ((s.chan c).state ≠ .off →
      exec .configure s = .next (s.answered r rest .wrongState (commandLine r (s.chan c).state))) ∧
    ((s.chan c).state = .off → k.configured = true → (s.limitSet k.limitSet).valid = false →
      exec .configure s = .next (s.answered r rest .badArgument (commandLine r .off))) ∧
    ((s.chan c).state = .off → (k.configured = true → (s.limitSet k.limitSet).valid = true) →
      ∃ t : State, exec .configure s = .next t ∧ (∀ d, t.cfg d = if d = c then k else s.cfg d) ∧
        t = { s with
          channels := s.channels.set c.val { s.chan c with track := Tracking.reset }
          configTable := t.configTable }.answered r rest .ok (commandLine r .off))

/-- START (R7, R32, R47, R58, R61, R95, R105, R129, R130): refused in the order of R129, or accepted: the descriptor is loaded,
tracking, accounts, score and stack start afresh, the STATE record is produced, and a transition to the named index begins. -/
def Obligations.StartCommand : Prop :=
  ∀ (s : State) (r : Request) (rest : List Request) (c : ChanId) (sel idx : Nat) (old : Channel) (ch : Channel),
    s.executes r rest → r.row = .start → r.commands c 3 → sel = u8At r.args 2 → idx = u16At r.args 3 → sel ≤ 63 →
    idx ≤ 1023 → old = s.chan c →
    ch = { old with
      state := .running
      track := { old.track with
        reference := none, lastArrival := none, stuckCount := 0, stuckLatch := false
        silence := some (s.timeBase + BitVec.ofNat 32 ((s.cfg c).silenceMult * (s.cfg c).period)) }
      acct := { old.acct with
        qs := 0, es := 0, ts := 0, qcIn := 0, qcOut := 0, ecIn := 0, ecOut := 0, tc := 0, residue := 0, qSat := false
        eSat := false, tSat := false }
      sup := { old.sup with score := 0, level := .normal, recovery := 0, hardMark := false }
      seq := { old.seq with
        cache := some (s.programDesc sel).toCache, selector := sel, stack := [], stackOverflow := false
        stackUnderflow := false, cycleCount := 0, grace := false, resume := .none, pendingEval := none } } →
    exec .start s = .next
      (if old.state ≠ .off ∧ old.state ≠ .complete then
        s.answered r rest .wrongState (commandLine r old.state)
       else if (s.cfg c).configured = false ∨ (s.limits c).valid = false then
        s.answered r rest .badConfig (commandLine r old.state)
       else if s.engine = .estop then s.answered r rest .estop (commandLine r old.state)
       else if (s.programDesc sel).valid = false ∨ (s.programDesc sel).limit ≤ idx then
        s.answered r rest .badArgument (commandLine r old.state)
       else
        { s.after c (ch.begun idx none { s.slot c .zero 0 s.nextSince with nextSeq := 0 })
            1 (s.stateBody c old.state .running .normal .command) with
          fetchQueue := s.fetchQueue ++ [c] }.answered r rest .ok (commandLine r .running))

/-- HOLD by the channel's state (R80, R118, R131): the table of R131, row by row. -/
def Obligations.HoldCommand : Prop :=
  ∀ (s : State) (r : Request) (rest : List Request) (c : ChanId) (ch : Channel), s.executes r rest →
    r.row = .hold → r.commands c 0 → ch = s.chan c →
    (ch.state = .running → ch.seq.inFlight = false → exec .hold s = .next ((s.after c
      { ch with
        state := .held, seq := { ch.seq with resume := .step }, sp := s.slot c .zero 0 s.nextSince }
      1 (s.stateBody c .running .held ch.sup.level .command)).answered r rest .ok (commandLine r .held))) ∧
    (ch.state = .running → ch.seq.inFlight = true → exec .hold s = .next ((s.after c
      { ch with seq := { ch.seq with holdPending := some (ch.seq.holdPending.getD .command) } }
      0 []).answered r rest .ok (commandLine r .running))) ∧
    (ch.state = .held → exec .hold s = .next (s.answered r rest .ok (commandLine r .held))) ∧
    (ch.state = .isolated → (s.cfg c).policy = .controller → exec .hold s = .next ((s.after c
      { ch with state := .held, sup := { ch.sup with recovery := 0, hardMark := false } }
      0 (s.stateBody c .isolated .held ch.sup.level .command)).answered r rest .ok (commandLine r .held))) ∧
    (ch.state = .isolated → (s.cfg c).policy ≠ .controller →
      exec .hold s = .next (s.answered r rest .wrongState (commandLine r .isolated))) ∧
    (ch.state = .off ∨ ch.state = .complete →
      exec .hold s = .next (s.answered r rest .wrongState (commandLine r ch.state)))

/-- RESUME (R84, R132, R133): only in HELD and not in ESTOP; it sets grace by its argument, clears the hard mark and the resume
point, and makes the channel RUNNING, going on with a held step or beginning a transition from the position otherwise. -/
def Obligations.ResumeCommand : Prop :=
  ∀ (s : State) (r : Request) (rest : List Request) (c : ChanId) (ch : Channel), s.executes r rest →
    r.row = .resume → r.commands c 1 → u8At r.args 2 ≤ 1 →
    ch = { s.chan c with
      state := .running
      seq := { (s.chan c).seq with resume := .none, grace := decide (u8At r.args 2 = 1) }
      sup := { (s.chan c).sup with hardMark := false } } →
    exec .resume s = .next
      (if (s.chan c).state ≠ .held then s.answered r rest .wrongState (commandLine r (s.chan c).state)
       else if s.engine = .estop then s.answered r rest .estop (commandLine r .held)
       else if (s.chan c).seq.resume = .step then
        (s.after c ch 0 (s.stateBody c .held .running ch.sup.level .command)).answered r rest .ok
          (commandLine r .running)
       else
        { s.after c (ch.begun ch.seq.index none (s.slot c .zero 0 s.nextSince))
            1 (s.stateBody c .held .running ch.sup.level .command) with
          fetchQueue := s.fetchQueue ++ [c] }.answered r rest .ok (commandLine r .running))

/-- STOP (R7, R81, R96, R118, R134): refused in OFF; otherwise the transition or step is given up, the timers stop, ZERO is
offered from RUNNING and HELD, and the channel is OFF, keeping its position, stack, totals, score and fault record. -/
def Obligations.StopCommand : Prop :=
  ∀ (s : State) (r : Request) (rest : List Request) (c : ChanId) (ch : Channel), s.executes r rest →
    r.row = .stop → r.commands c 0 → ch = s.chan c →
    exec .stop s = .next
      (if ch.state = .off then s.answered r rest .wrongState (commandLine r .off)
       else
        { s.after c
          { ch with
            state := .off, seq := ch.seq.dropped none .none
            track := { ch.track with silence := none, stuckCount := 0, stuckLatch := false }
            sp := { (if ch.state = ChState.running ∨ ch.state = ChState.held then s.slot c .zero 0 s.nextSince else ch.sp) with
                    refresh := none }
            sup := if ch.state = ChState.isolated then { ch.sup with recovery := 0, hardMark := false } else ch.sup }
          (if ch.state = ChState.running ∨ ch.state = ChState.held then 1 else 0)
          (s.stateBody c ch.state .off ch.sup.level .command) with
          fetchQueue := s.fetchWithout c, port := s.port.abandon c }.answered r rest .ok (commandLine r .off))

/-- JUMP (R82, R127, R135): in RUNNING without a transition it ends the step with COMMAND and begins a transition to the named
index; in HELD it moves the position, ending a held step; with a transition in flight it is BUSY, and elsewhere refused. -/
def Obligations.JumpCommand : Prop :=
  ∀ (s : State) (r : Request) (rest : List Request) (c : ChanId) (idx : Nat) (ch : Channel) (p : Sample),
    s.executes r rest → r.row = .jump → r.commands c 2 → idx = u16At r.args 2 → idx ≤ 1023 → ch = s.chan c →
    p = ch.track.lastPrimary.getD { v := 0, i := 0, t := none } →
    exec .jump s = .next
      (match ch.state with
       | .running =>
         if ch.seq.inFlight then s.answered r rest .busy (commandLine r .running)
         else
          { s.after c (ch.begun idx none (s.slot c .zero 0 s.nextSince))
              1 (s.stepEndBodies c .command p.v p.i p.t) with
            fetchQueue := s.fetchQueue ++ [c] }.answered r rest .ok (commandLine r .running)
       | .held =>
         (s.after c
           { ch with
             seq := { ch.seq with
               stepCopy := if ch.seq.resume = .step then none else ch.seq.stepCopy
               index := idx, resume := .transition } }
           0 (if ch.seq.resume = .step then s.stepEndBodies c .command p.v p.i p.t else [])).answered r rest .ok
             (commandLine r .held)
       | .off => s.answered r rest .wrongState (commandLine r .off)
       | .complete => s.answered r rest .wrongState (commandLine r .complete)
       | .isolated => s.answered r rest .wrongState (commandLine r .isolated))

/-- CLEAR_FAULT, whole (R136): in every state and in both engine states it empties the fault record and clears the sticky
and stack flags, changes nothing else, and the next entry after it fills the first-fault items. CLEAR_TOTALS, whole
(R137): in OFF, configured or not and in both engine states, it sets the lifetime accumulators and the residue to 0 and
changes nothing else; in every other state it is refused with WRONG_STATE. -/
def Obligations.ClearingCommands : Prop :=
  (∀ (s : State) (r : Request) (rest : List Request) (c : ChanId) (ch : Channel) (t : State), s.executes r rest →
      r.row = .clearFault → r.commands c 0 → ch = s.chan c →
      t = { s with
        channels := s.channels.set c.val { ch with
          sup := { ch.sup with
            fault := { causes := [], first := none, firstPos := none, firstAt := none, firstVI := none, firstT := none
                       count := 0 } }
          acct := { ch.acct with qSat := false, eSat := false, tSat := false }
          seq := { ch.seq with stackOverflow := false, stackUnderflow := false } } } →
      exec .clearFault s = .next (t.answered r rest .ok (commandLine r ch.state)) ∧
        t.faultAsserted = s.faultAsserted ∧
        ∀ e : FaultEntry, ((t.enterFault c e).chan c).sup.fault.first = some e.lead) ∧
  (∀ (s : State) (r : Request) (rest : List Request) (c : ChanId), s.executes r rest → r.row = .clearTotals →
      r.commands c 0 →
      ((s.chan c).state = .off → exec .clearTotals s = .next ({ s with
        channels := s.channels.set c.val { s.chan c with
          acct := { (s.chan c).acct with qlIn := 0, qlOut := 0, elIn := 0, elOut := 0, residue := 0 } } }.answered r rest .ok
            (commandLine r .off))) ∧
      ((s.chan c).state ≠ .off →
        exec .clearTotals s = .next (s.answered r rest .wrongState (commandLine r (s.chan c).state))))

/-! ## Bytes on the wire (Sections 8.2, 8.8, 10.1) -/

/-- The bytes on the wire (Sections 8.2, 8.8, 9.2, 10.1; R141, R142, R152 to R155, R172 to R176). The codes of statuses,
commands, end causes, actions, reasons, states, levels and causes. A field of two or four bytes is sent most significant byte
first, signed ones in two's complement. The CRC takes each byte most significant bit first into a register that starts at
FFFFH, with the polynomial 1021H, and gives 29B1H for the nine bytes 31H to 39H. A SETPOINT, MGMT_ANS or REPORT frame: kind 2,
9 or AH with low bits 0, its address, its payload byte for byte - of a REPORT frame the common part, the dropped count when
there is one, and the body of each of the four kinds with its optional field last - and the CRC over header and payload. A
SAMPLE payload of 8 bytes as it is read, with 8000H for an absent temperature and bit 0 of the flags as OVERRANGE. -/
def Obligations.FramesOnTheWire : Prop :=
  ([Status.ok, .unknownRequest, .badLength, .badArgument, .wrongState, .busy, .inUse, .conflict, .locked, .badConfig,
      .estop].map Status.code = [0, 1, 2, 3, 4, 5, 6, 7, 8, 9, 10] ∧
    [SpCommand.run, .zero, .openPath].map SpCommand.code = [1, 2, 3] ∧
    [EndCause.slot1, .slot2, .slot3, .profileEnd, .command].map EndCause.code = [1, 2, 3, 4, 5] ∧
    [FaultAction.trip, .recordOnly, .programFault].map FaultAction.code = [1, 2, 3] ∧
    [Reason.command, .programHold, .programFault, .trip, .recovered, .endProgram, .estop, .level].map Reason.code =
      [1, 2, 3, 4, 5, 6, 7, 8] ∧
    [ChState.off, .running, .held, .complete, .isolated].map ChState.code = [0, 1, 2, 3, 4] ∧
    [Level.normal, .warning, .derated].map Level.code = [0, 1, 2] ∧
    [Cause.stuck, .vHard, .iHard, .tHard, .tempMissing, .silence, .estop, .score, .bound, .stepInvalid,
      .descriptorInvalid, .stackOverflow, .stackUnderflow, .nesting, .chain].map Cause.code =
        [1, 2, 3, 4, 5, 6, 7, 8, 9, 10, 11, 12, 13, 14, 15]) ∧
  (∀ (l rest : List Byte) (i : Nat) (a b x y : Byte),
    (l.drop i = a :: rest → u8At l i = a.toNat) ∧
    (l.drop i = a :: b :: rest → u16At l i = (a ++ b).toNat ∧ s16At l i = (a ++ b).toInt) ∧
    (l.drop i = a :: b :: x :: y :: rest →
      u32At l i = (a ++ b ++ x ++ y).toNat ∧ s32At l i = (a ++ b ++ x ++ y).toInt)) ∧
  (crc16 [] = 0xFFFF ∧ crc16 [0x31, 0x32, 0x33, 0x34, 0x35, 0x36, 0x37, 0x38, 0x39] = 0x29B1 ∧
    ∀ (l : List Byte) (b : Byte), crc16 (l ++ [b]) =
      [7, 6, 5, 4, 3, 2, 1, 0].foldl
        (fun (x : BitVec 16) i => if x.msb = b.getLsbD i then x <<< 1 else x <<< 1 ^^^ 0x1021#16) (crc16 l)) ∧
  (∀ (f : SpFrame) (n : Byte) (x : Frame), x = setpointFrame f n → f.stage ≤ 63 → fitsS16 f.current →
    x.byte0 = 0x20 ∧ x.addr.toNat = f.stage ∧ sealedFrame x ∧ x.payload.length = 4 ∧ u8At x.payload 0 = n.toNat ∧
      u8At x.payload 1 = f.command.code + (if f.rep then 128 else 0) ∧
      s16At x.payload 2 = (if f.command = .run then f.current else 0)) ∧
  (∀ (addr : Byte) (a : Answer) (x : Frame), x = answerFrame addr a →
    x.byte0 = 0x90 ∧ x.addr = addr ∧ sealedFrame x ∧
      x.payload = a.tag :: a.code :: BitVec.ofNat 8 a.status.code :: a.results) ∧
  (∀ (addr : Byte) (r : Record) (x : Frame) (p : List Byte) (o : Nat), x = reportFrame addr r → p = x.payload →
    o = (if r.dropped = none then 6 else 8) → fitsU16 (r.dropped.getD 0) →
    x.byte0 = 0xA0 ∧ x.addr = addr ∧ sealedFrame x ∧
    u8At p 0 = (match r.body with
      | .stepEnd _ => 1
      | .cycleEnd _ => 2
      | .fault _ => 3
      | .state _ => 4) + (if r.dropped = none then 0 else 128) ∧
    u8At p 1 = r.channel.val ∧ u32At p 2 = r.tick.toNat ∧ (∀ n, r.dropped = some n → u16At p 6 = n) ∧
    match r.body with
    | .stepEnd b => b.selector ≤ 255 → fitsU16 b.index → fitsU32 b.time → fitsS32 b.charge → fitsS32 b.energy →
        fitsU16 b.v → fitsS16 b.i → fitsS16 (b.t.getD 0) →
        u8At p o = b.selector ∧ u16At p (o + 1) = b.index ∧ u8At p (o + 3) = b.cause.code ∧
        u8At p (o + 4) =
          b.clamped.toNat + 2 * b.qSat.toNat + 4 * b.eSat.toNat + 8 * b.tSat.toNat + 16 * b.t.isSome.toNat ∧
        u32At p (o + 5) = b.time ∧ s32At p (o + 9) = b.charge ∧ s32At p (o + 13) = b.energy ∧ u16At p (o + 17) = b.v ∧
        s16At p (o + 19) = b.i ∧ (∀ z, b.t = some z → s16At p (o + 21) = z) ∧
        p.length = o + (if b.t = none then 21 else 23)
    | .cycleEnd b => fitsU32 b.cycle → fitsU32 b.chargeIn → fitsU32 b.chargeOut → fitsU32 b.energyIn →
        fitsU32 b.energyOut → fitsU32 b.duration → fitsU16 (b.efficiency.getD 0) →
        u8At p o = b.clamped.toNat + 2 * b.efficiency.isSome.toNat ∧ u32At p (o + 1) = b.cycle ∧
        u32At p (o + 5) = b.chargeIn ∧ u32At p (o + 9) = b.chargeOut ∧ u32At p (o + 13) = b.energyIn ∧
        u32At p (o + 17) = b.energyOut ∧ u32At p (o + 21) = b.duration ∧
        (∀ z, b.efficiency = some z → u16At p (o + 25) = z) ∧
        p.length = o + (if b.efficiency = none then 25 else 27)
    | .fault b => b.selector ≤ 255 → fitsU16 b.index → fitsU16 b.v → fitsS16 b.i → fitsS16 (b.t.getD 0) →
        u8At p o = b.cause.code ∧ u8At p (o + 1) = b.action.code ∧ u8At p (o + 2) = b.t.isSome.toNat ∧
        u8At p (o + 3) = b.selector ∧ u16At p (o + 4) = b.index ∧ u16At p (o + 6) = b.v ∧ s16At p (o + 8) = b.i ∧
        (∀ z, b.t = some z → s16At p (o + 10) = z) ∧ p.length = o + (if b.t = none then 10 else 12)
    | .state b =>
        u8At p o = b.old.code ∧ u8At p (o + 1) = b.new.code ∧ u8At p (o + 2) = b.level.code ∧
        u8At p (o + 3) = b.reason.code ∧ p.length = o + 4) ∧
  ∀ b0 b1 b2 b3 b4 b5 b6 b7 : Byte, readSample [b0, b1, b2, b3, b4, b5, b6, b7] =
    { seq := b0, v := (b1 ++ b2).toNat, i := (b3 ++ b4).toInt
      t := if b5 ++ b6 = 0x8000#16 then none else some (b5 ++ b6).toInt
      overrange := b7.getLsbD 0 }

/-! ## Management requests (Section 9) -/

/-- Which row of the table a request belongs to, by its request code and the table, command or engine code it carries
(Section 9.2, R160, R162, R163, R165, R170); a payload that is too short to hold such a code goes to the undefined row of its
kind (the model's choice, notes/assumptions/8.md). The checks that every channel command passes first (R129 row 1, R165): its
length, the channel number and the ranges of its arguments; a refused command changes nothing but the queues of requests and
answers, and an answer to a command that carries a command code and a channel number in 0..31 carries the channel's state.
Without a command code it carries nothing (the model's choice, notes/assumptions/9.md). Requests that are answered without
any effect (R123, R160, R162, R163, R170): an undefined request code, table code or engine command, a write of the
configuration table, and a payload of the wrong length; nothing changes but the queues of requests and answers. -/
def Obligations.RequestRowsAndRefusals : Prop :=
  (∀ (r : Request) (n : Nat), n = r.code.toNat →
    (n = 1 → r.row = .identify) ∧ (n = 5 → r.row = .readChannel) ∧ (n = 6 → r.row = .readAccounts) ∧
    (n = 7 → r.row = .readFault) ∧ (n = 8 → r.row = .readCounters) ∧ (n = 9 → r.row = .clearCounters) ∧
    ((n = 0 ∨ 11 ≤ n) → r.row = .unknownRequest) ∧
    (n = 2 → r.args = [] → r.row = .readTableUndefinedTable) ∧ (n = 3 → r.args = [] → r.row = .writeTableUndefinedTable) ∧
    (n = 4 → r.args.length < 2 → r.row = .undefinedChannelCommand) ∧ (n = 10 → r.args = [] → r.row = .undefinedEngineCommand) ∧
    (∀ t rest, n = 2 → r.args = t :: rest → t ≠ 0 → r.row =
      ([.readTableStep, .readTableProgram, .readTableProfileSeg, .readTableProfile, .readTableLimit, .readTableAccept,
        .readTableConfig] : List RequestRow).getD (t.toNat - 1) .readTableUndefinedTable) ∧
    (∀ t rest, n = 3 → r.args = t :: rest → t ≠ 0 → r.row =
      ([.writeTableStep, .writeTableProgram, .writeTableProfileSeg, .writeTableProfile, .writeTableLimit,
        .writeTableAccept, .writeTableConfig] : List RequestRow).getD (t.toNat - 1) .writeTableUndefinedTable) ∧
    (∀ c t rest, n = 4 → r.args = c :: t :: rest → t ≠ 0 → r.row =
      ([.configure, .start, .hold, .resume, .stop, .jump, .clearFault, .clearTotals] : List RequestRow).getD
        (t.toNat - 1) .undefinedChannelCommand) ∧
    (∀ t rest, n = 10 → r.args = t :: rest → t ≠ 0 → r.row =
      ([.resetEngine, .clearEstop] : List RequestRow).getD (t.toNat - 1) .undefinedEngineCommand) ∧
    (∀ rest, n = 2 → r.args = 0 :: rest → r.row = .readTableUndefinedTable) ∧
    (∀ rest, n = 3 → r.args = 0 :: rest → r.row = .writeTableUndefinedTable) ∧
    (∀ c rest, n = 4 → r.args = c :: 0 :: rest → r.row = .undefinedChannelCommand) ∧
    ∀ rest, n = 10 → r.args = 0 :: rest → r.row = .undefinedEngineCommand) ∧
  (∀ (s : State) (r : Request) (rest : List Request), s.executes r rest →
      (∀ x : Instr × RequestRow × Nat,
        x ∈ [(.configure, .configure, 16), (.start, .start, 3), (.hold, .hold, 0), (.resume, .resume, 1),
          (.stop, .stop, 0), (.jump, .jump, 2), (.clearFault, .clearFault, 0), (.clearTotals, .clearTotals, 0)] →
        r.row = x.2.1 →
        (∀ c : ChanId, u8At r.args 0 = c.val → r.args.length ≠ 2 + x.2.2 →
          exec x.1 s = .next (s.answered r rest .badLength (commandLine r (s.chan c).state))) ∧
        (32 ≤ u8At r.args 0 →
          exec x.1 s = .next (s.answered r rest (if r.args.length = 2 + x.2.2 then .badArgument else .badLength) []))) ∧
      (∀ (c : ChanId), r.row = .undefinedChannelCommand → 2 ≤ r.args.length → u8At r.args 0 = c.val →
        exec .undefinedChannelCommand s = .next (s.answered r rest .badArgument (commandLine r (s.chan c).state))) ∧
      (r.row = .undefinedChannelCommand → 2 ≤ r.args.length → 32 ≤ u8At r.args 0 →
        exec .undefinedChannelCommand s = .next (s.answered r rest .badArgument [])) ∧
      (r.row = .undefinedChannelCommand → r.args.length < 2 →
        exec .undefinedChannelCommand s = .next (s.answered r rest .badLength [])) ∧
      ∀ c : ChanId,
        (r.row = .start → r.commands c 3 → (63 < u8At r.args 2 ∨ 1023 < u16At r.args 3) →
          exec .start s = .next (s.answered r rest .badArgument (commandLine r (s.chan c).state))) ∧
        (r.row = .resume → r.commands c 1 → 1 < u8At r.args 2 →
          exec .resume s = .next (s.answered r rest .badArgument (commandLine r (s.chan c).state))) ∧
        (r.row = .jump → r.commands c 2 → 1023 < u16At r.args 2 →
          exec .jump s = .next (s.answered r rest .badArgument (commandLine r (s.chan c).state))) ∧
        (r.row = .configure → r.commands c 16 → readConfig (r.args.drop 2) = none →
          exec .configure s = .next (s.answered r rest .badArgument (commandLine r (s.chan c).state)))) ∧
  (∀ (s : State) (r : Request) (rest : List Request), s.executes r rest →
      (r.row = .unknownRequest → exec .unknownRequest s = .next (s.answered r rest .unknownRequest [])) ∧
      (r.row = .readTableUndefinedTable → exec .readTableUndefinedTable s = .next
        (s.answered r rest (if r.args.length = 4 then .badArgument else .badLength) [])) ∧
      (r.row = .writeTableUndefinedTable → exec .writeTableUndefinedTable s = .next
        (s.answered r rest (if r.args = [] then .badLength else .badArgument) [])) ∧
      (r.row = .writeTableConfig → exec .writeTableConfig s = .next (s.answered r rest .badArgument [])) ∧
      (r.row = .undefinedEngineCommand → exec .undefinedEngineCommand s = .next
        (s.answered r rest (if r.args.length = 1 then .badArgument else .badLength) [])) ∧
      (∀ x : Instr × RequestRow × Nat,
        x ∈ [(.identify, .identify, 0), (.readCounters, .readCounters, 0), (.clearCounters, .clearCounters, 0),
          (.readChannel, .readChannel, 1), (.readAccounts, .readAccounts, 1), (.readFault, .readFault, 1),
          (.readTableLimit, .readTableLimit, 4), (.readTableAccept, .readTableAccept, 4),
          (.readTableConfig, .readTableConfig, 4), (.resetEngine, .resetEngine, 1), (.clearEstop, .clearEstop, 1)] →
        r.row = x.2.1 → r.args.length ≠ x.2.2 → exec x.1 s = .next (s.answered r rest .badLength [])) ∧
      ∀ x : Instr × RequestRow,
        x ∈ [(.readChannel, .readChannel), (.readAccounts, .readAccounts), (.readFault, .readFault)] →
        r.row = x.2 → r.args.length = 1 → 32 ≤ u8At r.args 0 → exec x.1 s = .next (s.answered r rest .badArgument []))

/-- READ_ACCOUNTS and READ_FAULT, whole (R167, R168): the 78 bytes of a channel's accounts and the 20 bytes of its fault
record, or BAD_ARGUMENT for a channel number outside 0..31; nothing but the queues of requests and answers changes. -/
def Obligations.ReadAccountsAndFault : Prop :=
  ∀ (s : State) (r : Request) (rest : List Request), s.executes r rest → r.args.length = 1 →
    (32 ≤ u8At r.args 0 →
      (r.row = .readAccounts → exec .readAccounts s = .next (s.answered r rest .badArgument [])) ∧
      (r.row = .readFault → exec .readFault s = .next (s.answered r rest .badArgument []))) ∧
    ∀ (c : ChanId) (a : Accounts) (f : FaultRecord) (out : List Byte), u8At r.args 0 = c.val → a = (s.chan c).acct →
      f = (s.chan c).sup.fault →
      (out =
          natBytes 1 c.val ++ intBytes 6 a.qs ++ intBytes 6 a.es ++ natBytes 4 a.ts ++ natBytes 6 a.qcIn ++
          natBytes 6 a.qcOut ++ natBytes 6 a.ecIn ++ natBytes 6 a.ecOut ++ natBytes 4 a.tc ++ natBytes 8 a.qlIn ++
          natBytes 8 a.qlOut ++ natBytes 6 a.elIn ++ natBytes 6 a.elOut ++ intBytes 4 a.residue ++
          natBytes 1 (a.qSat.toNat + 2 * a.eSat.toNat + 4 * a.tSat.toNat) →
        r.row = .readAccounts → out.length = 78 ∧ exec .readAccounts s = .next (s.answered r rest .ok out)) ∧
      (out =
          natBytes 1 c.val ++ natBytes 2 f.count ++
          natBytes 2 ((allCauses.map (fun x => if x ∈ f.causes then 2 ^ (x.code - 1) else 0)).sum) ++
          natBytes 1 ((f.first.map Cause.code).getD 0) ++ natBytes 1 ((f.firstPos.map (·.1)).getD 0) ++
          natBytes 2 ((f.firstPos.map (·.2)).getD 0) ++ natBytes 4 (f.firstAt.getD 0).toNat ++
          natBytes 1 (f.firstVI.isSome.toNat + 2 * f.firstT.isSome.toNat) ++ natBytes 2 ((f.firstVI.map (·.1)).getD 0) ++
          intBytes 2 ((f.firstVI.map (·.2)).getD 0) ++ intBytes 2 (f.firstT.getD 0) →
        r.row = .readFault → out.length = 20 ∧ exec .readFault s = .next (s.answered r rest .ok out))

/-- IDENTIFY and READ_CHANNEL (R144, R161, R166): the six bytes of the engine's identity and the 50 bytes of a channel,
each item in the place and width of the manual's tables; nothing but the queues of requests and answers changes.
READ_COUNTERS and CLEAR_COUNTERS (R21, R58, R85, R143, R169): the nine link counters in their order, and every counter of
the links and of all 32 channels set to 0 with nothing else changed. -/
def Obligations.IdentityChannelAndCounters : Prop :=
  (∀ (s : State) (r : Request) (rest : List Request), s.executes r rest →
      (r.row = .identify → r.args = [] → exec .identify s = .next (s.answered r rest .ok
        [0xC0, 0x32, 0x01, 0xF0#8 + s.addrStrap.setWidth 8, if s.engine = .estop then 2 else 1,
         if s.rateStrap then 1 else 0])) ∧
      ∀ (c : ChanId) (ch : Channel) (out : List Byte), r.row = .readChannel → r.args.length = 1 → u8At r.args 0 = c.val →
        ch = s.chan c →
        out =
          natBytes 1 c.val ++ natBytes 1 ch.state.code ++ natBytes 1 ch.sup.level.code ++ natBytes 1 ch.sup.score ++
          natBytes 1 ch.sup.recovery ++ [if (s.cfg c).configured then (1 : Byte) else 0] ++ natBytes 1 ch.seq.selector ++
          natBytes 2 ch.seq.index ++ natBytes 1 ch.seq.stack.length ++
          [match ch.seq.holdPending with
           | none => (0 : Byte)
           | some .command => 1
           | some .program => 2] ++
          natBytes 1 ch.seq.resume.code ++ natBytes 1 ch.seq.phase.code ++
          natBytes 2
            (ch.seq.inFlight.toNat + 2 * ch.seq.grace.toNat + 4 * ch.sp.pending.isSome.toNat +
              8 * ch.track.lastPrimary.isSome.toNat + 16 * ch.track.auxFresh.toNat + 32 * ch.acct.qSat.toNat +
              64 * ch.acct.eSat.toNat + 128 * ch.acct.tSat.toNat + 256 * ch.seq.stackOverflow.toNat +
              512 * ch.seq.stackUnderflow.toNat) ++
          natBytes 4 ch.seq.cycleCount ++
          (match ch.track.lastPrimary with
           | none => [0, 0, 0, 0, 0, 0]
           | some p => natBytes 2 p.v ++ intBytes 2 p.i ++ intBytes 2 (p.t.getD 0x8000)) ++
          intBytes 2 ((ch.track.aux.map (·.1)).getD 0x8000) ++ natBytes 1 ch.track.stuckCount ++
          intBytes 2 ch.sp.regulator ++
          (match ch.sp.lastTx with
           | none => [0, 0, 0]
           | some x => natBytes 1 x.command.code ++ intBytes 2 x.current) ++
          [ch.sp.nextSeq] ++ natBytes 2 ch.track.duplicate ++ natBytes 2 ch.track.stale ++ natBytes 2 ch.track.missed ++
          natBytes 2 ch.track.gapClamp ++ natBytes 2 ch.track.cadence ++ natBytes 2 ch.seq.lostEval ++
          natBytes 2 ch.sp.superseded ++ natBytes 2 ch.sp.repeats →
        out.length = 50 ∧ exec .readChannel s = .next (s.answered r rest .ok out)) ∧
  (∀ (s : State) (r : Request) (rest : List Request), s.executes r rest → r.args = [] →
      (r.row = .readCounters → exec .readCounters s = .next (s.answered r rest .ok
        (natBytes 2 s.link.upFraming ++ natBytes 2 s.link.upCrc ++ natBytes 2 s.link.upMalformed ++
          natBytes 2 s.link.dnFraming ++ natBytes 2 s.link.dnCrc ++ natBytes 2 s.link.dnMalformed ++
          natBytes 2 s.link.mgmtDrop ++ natBytes 2 s.link.relayDropDown ++ natBytes 2 s.link.relayDropUp))) ∧
      (r.row = .clearCounters → ∃ t : State, exec .clearCounters s = .next (t.answered r rest .ok []) ∧
        t = { s with channels := t.channels, link := LinkCounters.reset } ∧
        ∀ c : ChanId, t.chan c = { s.chan c with
          track := { (s.chan c).track with duplicate := 0, stale := 0, missed := 0, gapClamp := 0, cadence := 0 }
          seq := { (s.chan c).seq with lostEval := 0 }
          sp := { (s.chan c).sp with superseded := 0, repeats := 0 } }))

/-- READ_TABLE of the limit sets, the acceptance entries and the configuration records (R162, R164): the records of the
range as they stand at this event, each in its form, or BAD_ARGUMENT. WRITE_TABLE of the limit sets and of the acceptance
table (R2, R3, R103, R163): the checks in their order, LOCKED before all others for the limit sets, and the whole request
landing at one event; a refused request writes nothing. -/
def Obligations.ImmediateTableRequests : Prop :=
  (∀ (s : State) (r : Request) (rest : List Request) (i n : Nat), s.executes r rest → r.args.length = 4 →
      i = u16At r.args 1 → n = u8At r.args 3 →
      (r.row = .readTableLimit → exec .readTableLimit s = .next
        (if 1 ≤ n ∧ n ≤ 4 ∧ i + n ≤ 16 then
          s.answered r rest .ok ((List.range' i n).map (fun x => limitBytes (s.limitSet x))).flatten
         else s.answered r rest .badArgument [])) ∧
      (r.row = .readTableAccept → exec .readTableAccept s = .next
        (if 1 ≤ n ∧ n ≤ 28 ∧ i + n ≤ 64 then
          s.answered r rest .ok ((List.range' i n).map (fun x => acceptBytes (s.acceptEntry x))).flatten
         else s.answered r rest .badArgument [])) ∧
      (r.row = .readTableConfig → exec .readTableConfig s = .next
        (if 1 ≤ n ∧ n ≤ 7 ∧ i + n ≤ 32 then
          s.answered r rest .ok
            ((List.range' i n).map (fun x => configBytes (Table.read ConfigRec.reset s.configTable x))).flatten
         else s.answered r rest .badArgument []))) ∧
  (∀ (s : State) (r : Request) (rest : List Request) (i n : Nat), s.executes r rest → s.tablesWf →
      i = u16At r.args 1 → n = u8At r.args 3 →
      (r.row = .writeTableLimit →
        (s.maint = false → exec .writeTableLimit s = .next (s.answered r rest .locked [])) ∧
        (s.maint = true → (r.args.length < 4 ∨ r.args.length ≠ 4 + n * 24) →
          exec .writeTableLimit s = .next (s.answered r rest .badLength [])) ∧
        (s.maint = true → 4 ≤ r.args.length → r.args.length = 4 + n * 24 →
          (n = 0 ∨ 16 < i + n ∨ readRecords readLimit 24 n (r.args.drop 4) = none) →
          exec .writeTableLimit s = .next (s.answered r rest .badArgument [])) ∧
        ∀ sets : List LimitSet, s.maint = true → r.args.length = 4 + n * 24 → 1 ≤ n → i + n ≤ 16 →
          readRecords readLimit 24 n (r.args.drop 4) = some sets →
          ((∃ (c : ChanId) (j : Nat), (s.cfg c).configured = true ∧ (s.chan c).state ≠ .off ∧ j < n ∧
              (s.cfg c).limitSet = i + j ∧ (sets.getD j LimitSet.reset).valid = false) →
            exec .writeTableLimit s = .next (s.answered r rest .inUse [])) ∧
          ((∀ (c : ChanId) (j : Nat), (s.cfg c).configured = true → (s.chan c).state ≠ .off → j < n →
              (s.cfg c).limitSet = i + j → (sets.getD j LimitSet.reset).valid = true) →
            ∃ t : State, exec .writeTableLimit s = .next t ∧
              t = { s with limitTable := t.limitTable }.answered r rest .ok [] ∧
              ∀ x, t.limitSet x = if i ≤ x ∧ x < i + n then sets.getD (x - i) LimitSet.reset else s.limitSet x)) ∧
      (r.row = .writeTableAccept →
        ((r.args.length < 4 ∨ r.args.length ≠ 4 + n * 4) →
          exec .writeTableAccept s = .next (s.answered r rest .badLength [])) ∧
        (4 ≤ r.args.length → r.args.length = 4 + n * 4 →
          (n = 0 ∨ 64 < i + n ∨ readRecords readAccept 4 n (r.args.drop 4) = none) →
          exec .writeTableAccept s = .next (s.answered r rest .badArgument [])) ∧
        ∀ (es : List AcceptEntry) (after_ : Nat → AcceptEntry), r.args.length = 4 + n * 4 → 1 ≤ n → i + n ≤ 64 →
          readRecords readAccept 4 n (r.args.drop 4) = some es →
          after_ = (fun x => if i ≤ x ∧ x < i + n then es.getD (x - i) AcceptEntry.reset else s.acceptEntry x) →
          ∀ inUse conflict : Prop,
          (inUse ↔ ∃ x, i ≤ x ∧ x < i + n ∧ after_ x ≠ s.acceptEntry x ∧
            (((s.acceptEntry x).enable = true ∧ (s.acceptEntry x).role = .primary ∧
                (s.chan (s.acceptEntry x).channel).state ≠ .off) ∨
              ((after_ x).enable = true ∧ (after_ x).role = .primary ∧ (s.chan (after_ x).channel).state ≠ .off))) →
          (conflict ↔ ∃ x y, x < y ∧ y < 64 ∧ (after_ x).enable = true ∧ (after_ y).enable = true ∧
            (after_ x).role = .primary ∧ (after_ y).role = .primary ∧ (after_ x).channel = (after_ y).channel) →
          (inUse → exec .writeTableAccept s = .next (s.answered r rest .inUse [])) ∧
          (¬ inUse → conflict → exec .writeTableAccept s = .next (s.answered r rest .conflict [])) ∧
          (¬ inUse → ¬ conflict → ∃ t : State, exec .writeTableAccept s = .next t ∧
            t = { s with acceptTable := t.acceptTable }.answered r rest .ok [] ∧ ∀ x, t.acceptEntry x = after_ x)))

/-! ## Engine control (Section 11) -/

/-- While RESET_N is low the engine takes nothing in (R183): no command changes the state, but for the levels of ESTOP_N and
MAINT and for the release. That the lines' levels are still followed is a deduction (notes/assumptions/12.md). Power- on reset
(R183): a fall of RESET_N cuts both transmissions off and holds the time base at 0; the release samples the straps, gives
every item of state its reset value and begins the table clear; and when the clear completes, the program tables, limit sets,
acceptance entries and configuration records are at their reset values and the engine is READY, or ESTOP with ESTOP_N low.
Until the clear completes the tables keep what they held (notes/assumptions/11.md, 12.md). That a release with RESET_N high
and a completion with no table clear in progress change nothing is the model's choice (notes/assumptions/3.md), and the
model's own count of reads goes on through a reset (notes/assumptions/13.md). -/
def Obligations.PowerOnReset : Prop :=
  (∀ (c : Instr) (s : State), s.resetN = false →
      exec c s =
        match c with
        | .resetNRelease addr rate => .next (s.powerOn addr rate)
        | .estopNFall => .next { s with estopN := false }
        | .estopNRise => .next { s with estopN := true }
        | .maintChange level => .next { s with maint := level }
        | _ => .next s) ∧
  ((∀ s : State, s.resetN = true → ∃ t : State, exec .resetNFall s = .next t ∧
      t = { s with resetN := false, timeBase := 0, upTx := none, dnTx := none, channels := t.channels } ∧
      ∀ c : ChanId, t.chan c = { s.chan c with sp := { (s.chan c).sp with inTx := none } }) ∧
    (∀ (s : State) (addr : BitVec 4) (rate : Bool), s.resetN = false → exec (.resetNRelease addr rate) s = .next
      { State.reset with
        pending := s.pending, estopN := s.estopN, maint := s.maint, addrStrap := addr, rateStrap := rate
        acceptTable := s.acceptTable, stepTable := s.stepTable, programTable := s.programTable
        segmentTable := s.segmentTable, profileTable := s.profileTable, limitTable := s.limitTable
        configTable := s.configTable, readRaces := s.readRaces }) ∧
    (∀ (s : State) (addr : BitVec 4) (rate : Bool), s.resetN = true →
      exec (.resetNRelease addr rate) s = .next s) ∧
    ∀ s : State, s.attends →
      (s.clearing = false → exec .tableClearComplete s = .next s) ∧
      (s.clearing = true → s.engine = .init →
        (∀ c : ChanId, (s.chan c).sp.pending = none ∧ (s.chan c).sp.inTx = none) →
        exec .tableClearComplete s = .next { s with
          clearing := false, engine := if s.estopN then .ready else .estop, acceptTable := [], stepTable := []
          programTable := [], segmentTable := [], profileTable := [], limitTable := [], configTable := [] }))

/-- A tick of the time base (R184): it counts up by one and wraps from 2^32 - 1 to 0, with no other effect where no expiry and
no table clear falls on the tick that ends; and none that falls on it is left behind, since what has not been presented is
taken first (the model's deduction, notes/assumptions/5.md): a tick does what the expiries of the channels given one after
another do, channel by channel, silence, AUX freshness, refresh, and then counts; and at tick 10 of a start-up that is still
clearing its tables, what the completion of the table clear and then the tick do, so that the clear is over. -/
def Obligations.TimeBaseTicks : Prop :=
  ∀ s : State, s.attends →
    (∃ t : State, exec .timeBaseTick s = .next t ∧ t.timeBase = s.timeBase + 1 ∧
      ∀ c : ChanId, (t.chan c).track.silence ≠ some s.timeBase ∧ (t.chan c).track.auxTimer ≠ some s.timeBase ∧
        (t.chan c).sp.refresh ≠ some s.timeBase) ∧
    ((∀ c : ChanId, (s.chan c).track.silence ≠ some s.timeBase ∧ (s.chan c).track.auxTimer ≠ some s.timeBase ∧
        (s.chan c).sp.refresh ≠ some s.timeBase) →
      (s.clearing = true → s.timeBase ≠ 10) →
      exec .timeBaseTick s = .next { s with timeBase := s.timeBase + 1 }) ∧
    (s.timeBase = 4294967295 → ∃ t : State, exec .timeBaseTick s = .next t ∧ t.timeBase = 0) ∧
    ((s.clearing = true → s.timeBase ≠ 10) → ∃ u : State,
      givenAll ((List.finRange 32).flatMap (fun c => [.silenceExpiry c, .auxFreshnessExpiry c, .refreshExpiry c])) s =
        .next u ∧
      exec .timeBaseTick s = .next { u with timeBase := s.timeBase + 1 }) ∧
    (s.clearing = true → s.timeBase = 10 → s.engine = .init → s.requests = [] → ∃ u t : State,
      exec .tableClearComplete s = .next u ∧ exec .timeBaseTick s = .next t ∧ exec .timeBaseTick u = .next t ∧
      u.attends ∧ u.clearing = false ∧ t.clearing = false)

/-- The lines (R103, R182, R186, R187): a change of MAINT, a rise of ESTOP_N, and a fall of it in INIT or ESTOP change the
level and nothing else. A fall of ESTOP_N in READY (R83, R113, R114, R186, R188): the engine is in ESTOP with FAULT_N
asserted; every RUNNING, HELD or COMPLETE channel trips with cause ESTOP, an ISOLATED one gets the entry, the hard mark and a
recovery count of 0, an OFF one is not touched; and the tripped channels have left the step fetch queue, with a fetch in
progress for one of them to be discarded. The channels are treated in increasing number: their OPENs take their places in that
order, and their records are offered in that order, for a tripped channel FAULT with action TRIP and then STATE with reason
ESTOP, for an ISOLATED one FAULT with action RECORD_ONLY. FAULT_N is asserted exactly while RESET_N is high, the engine is not in
INIT, and the engine is in ESTOP or some channel is ISOLATED; it is released otherwise (R188). That a fall of ESTOP_N given while
the line is already low changes nothing, in every engine state, is the model's choice, as is every line change to the level
that the line has (notes/assumptions/3.md). -/
def Obligations.LinesAndEmergencyStop : Prop :=
  (∀ s : State, s.attends →
      (∀ level : Bool, exec (.maintChange level) s = .next { s with maint := level }) ∧
      exec .estopNRise s = .next { s with estopN := true } ∧
      (s.estopN = true → s.engine ≠ .ready → exec .estopNFall s = .next { s with estopN := false }) ∧
      (s.estopN = false → exec .estopNFall s = .next s)) ∧
  (∀ s : State, s.faultAsserted = true ↔
      s.resetN = true ∧ s.engine ≠ .init ∧ (s.engine = .estop ∨ ∃ c : ChanId, (s.chan c).state = .isolated)) ∧
  ∀ (s : State) (trips : ChanId → Bool) (opens : List ChanId) (bodies : ChanId → List Body) (e : FaultEntry),
    s.attends → s.estopN = true → s.engine = .ready → e = FaultEntry.bare .estop →
    (∀ c, trips c = true ↔ (s.chan c).state ≠ .off ∧ (s.chan c).state ≠ .isolated) →
    opens = (List.finRange 32).filter (fun c => trips c && !(s.cfg c).shadow) →
    (∀ c, bodies c =
      if trips c then
        s.faultBodyOf c e .trip :: s.stateBody c (s.chan c).state (s.tripState c) (s.chan c).sup.level .estop
      else if (s.chan c).state = .isolated then [s.faultBodyOf c e .recordOnly]
      else []) →
    ∃ t u : State, exec .estopNFall s = .next t ∧
      u = (List.finRange 32).foldl (fun u c => (bodies c).foldl (fun u b => u.produce c b) u) s ∧
      t = { s with
        estopN := false, engine := .estop, channels := t.channels, reports := u.reports, dropCount := u.dropCount
        nextSince := s.nextSince + opens.length
        port := (match s.port with
          | .fetch c o live => .fetch c o (live && !trips c)
          | .free => .free
          | .access => .access)
        fetchQueue := s.fetchQueue.filter (fun c => !trips c) } ∧
      t.faultAsserted = true ∧
      ∀ c : ChanId,
        ((s.chan c).state = .off → t.chan c = s.chan c) ∧
        ((s.chan c).state = .isolated → t.chan c = { s.chan c with
          sup := { (s.chan c).sup with recovery := 0, hardMark := true, fault := s.entered c e } }) ∧
        (trips c = true →
          t.chan c = s.tripped c e (s.nextSince + (opens.filter (fun d => decide (d < c))).length))

/-- RESET_ENGINE and CLEAR_ESTOP (R170, R171, R187): the answer of an accepted RESET_ENGINE is placed and marked, and no
further request starts; CLEAR_ESTOP is refused while ESTOP_N is low and otherwise returns the engine from ESTOP to READY,
changing nothing else. The engine reset, at the completion of the transmission of its answer (R101, R170, R185): every
channel is OFF with its contexts at their reset values, but for a setpoint context that was offered its final ZERO; all
queues are empty, every counter and the time base are 0, the arbiters and the port's alternation are at their reset marks; a
fetch access in progress goes on with its outcome to be discarded, and the port is otherwise as it was; the tables are kept;
and the engine is in INIT until the last final ZERO, or at once READY or ESTOP when none was offered. A setpoint context that
waits for its final ZERO has its refresh timer stopped (R96) and its two counters 0 at once, by inference from the rules
(notes/assumptions/16.md).
In which order several final ZEROs take their places in slots without a pending frame is left open here: no rule orders them
(notes/assumptions/24.md). -/
def Obligations.EngineCommandsAndReset : Prop :=
  (∀ (s : State) (r : Request) (rest : List Request), s.executes r rest → r.args.length = 1 →
      (r.row = .resetEngine → ∀ t : State,
        t = { s with
          requests := rest, resetPending := true
          answers := s.answers ++ [{ tag := r.tag, code := r.code, status := .ok, results := [], resets := true }] } →
        exec .resetEngine s = .next t ∧ t.dueRequest = none) ∧
      (r.row = .clearEstop →
        (s.estopN = false → exec .clearEstop s = .next (s.answered r rest .estop [])) ∧
        (s.estopN = true → exec .clearEstop s = .next ({ s with engine := .ready }.answered r rest .ok [])))) ∧
  (∀ (s : State) (f : Frame), s.attends → s.upTx = some { frame := f, resets := true } →
      ∃ t : State, exec .upTransmitComplete s = .next t ∧
        t = { s with
          upTx := none, channels := t.channels, nextSince := t.nextSince, fetchQueue := [], portLast := .management
          port := (match s.port with
            | .fetch c o _ => .fetch c o false
            | .free => .free
            | .access => .access)
          reports := [], dropCount := 0, relayDown := [], relayUp := [], requests := []
          answers := [], job := none, resetPending := false, link := LinkCounters.reset, relayWait := 0, upServed := .relay
          timeBase := 0
          engine :=
            if s.clearing = false ∧ ∀ c : ChanId, (s.chan c).state = .off ∨ (s.cfg c).shadow = true then
              (if s.estopN then .ready else .estop)
            else .init } ∧
        (∀ c : ChanId, t.port.fetchesFor c = false) ∧
        ∀ c : ChanId,
          ((s.chan c).state = .off ∨ (s.cfg c).shadow = true → t.chan c = Channel.reset) ∧
          ((s.chan c).state ≠ .off → (s.cfg c).shadow = false →
            ∃ n, t.chan c = { Channel.reset with
              sp := { (s.chan c).sp with
                pending := some { stage := (s.cfg c).stage, command := .zero, current := 0, rep := false, final := true }
                since := if (s.chan c).sp.pending = none then some n else (s.chan c).sp.since
                refresh := none, superseded := 0, repeats := 0 } }))

/-! ## What every step keeps -/

/-- Every step keeps the queues within their capacities, the relay wait count in its range, and the management unit's books:
at most one request in execution, with room for its answer, and a management access in progress as the port's last (R63, R147,
R150, R157 to R159, R170, R177, R178). -/
def Obligations.StepKeepsQueues : Prop :=
  ∀ s t : State, s.queuesBounded ∧ s.relayWaitOk ∧ s.managementOk → step s = .next t →
    t.queuesBounded ∧ t.relayWaitOk ∧ t.managementOk

/-- Every step keeps what holds of transitions and steps (R57, R59, R60, R62, R64, R78, R84): the channels in flight are exactly
those that wait for a fetch or are fetched for, each once; a RUNNING channel without a transition has a step below the limit of
its cache; no stack holds more than 8 frames and no transition more than 16 fetches. -/
def Obligations.StepKeepsFlights : Prop :=
  ∀ s t : State, s.flightsOk → step s = .next t → t.flightsOk

/-- Every step keeps the setpoint slots: outside reset a channel that drives nothing has no RUN as the last word of its slot
(R93, R99, R100), and the pending slots stand in one order (R92, R149). -/
def Obligations.StepKeepsSlots : Prop :=
  ∀ s t : State, s.flightsOk → s.quietSlots ∧ s.sinceOk → step s = .next t → t.quietSlots ∧ t.sinceOk

/-- Every step keeps the supervision of every channel: the score in 0..255, the level in its band, the recovery count below 64
and 0 outside ISOLATED; the fault record with no first cause exactly while it is empty as a whole, its first cause among its
causes, and its count in range (R105, R109, R110, R116, R118 to R120). That a cause set lists its causes in code order is the
model's choice (notes/assumptions/21.md). -/
def Obligations.StepKeepsSupervision : Prop :=
  ∀ s t : State, s.flightsOk → (∀ c : ChanId, (s.chan c).supervisionOk) → step s = .next t →
    ∀ c : ChanId, (t.chan c).supervisionOk

/-- Every step keeps every channel's accumulators in range with a residue below one millijoule (R23, R24, R26), its source
tracking consistent (R6, R7, R12 to R15, R18) and its counters in range (R9, R57, R85). -/
def Obligations.StepKeepsAccounts : Prop :=
  ∀ s t : State, (∀ c : ChanId, (s.chan c).acct.inRange ∧ (s.chan c).trackingOk ∧ (s.chan c).countersOk) →
    step s = .next t → ∀ c : ChanId, (t.chan c).acct.inRange ∧ (t.chan c).trackingOk ∧ (t.chan c).countersOk

/-- Every step keeps the tables in their canonical form with every stored record one that its write admits, a table request
inside its table, and no two enabled PRIMARY entries of one channel (R1, R3, R38 to R45, R49, R50, R102, R103, R123,
R124). -/
def Obligations.StepKeepsTables : Prop :=
  ∀ s t : State, s.tablesWf ∧ s.recordsOk ∧ s.jobOk ∧ s.primariesOk → step s = .next t →
    t.tablesWf ∧ t.recordsOk ∧ t.jobOk ∧ t.primariesOk

/-- Every step keeps a channel that is not OFF configured with a valid limit set (R103, R104, R124, R125), and while the engine
is in INIT every channel OFF with no request and no record waiting (R180, R182, R185). -/
def Obligations.StepKeepsConfiguration : Prop :=
  ∀ s t : State, s.flightsOk → s.configured ∧ s.initOk → step s = .next t → t.configured ∧ t.initOk
end

