-- ==== Sys2Proof/Laws/State.lean ====
section
/-! SUPPORT. What each named update of the state leaves alone: one lemma per field and per read for each update, so that
no later proof unfolds a record update. The lemmas about the channels themselves follow at the end. -/

namespace Sys2Proof.Machine

open Sys2Proof

/-! ### State.setChan -/

@[simp] theorem State.setChan_pending (s : State) (c : ChanId) (ch : Channel) : (s.setChan c ch).pending = s.pending := rfl
@[simp] theorem State.setChan_resetN (s : State) (c : ChanId) (ch : Channel) : (s.setChan c ch).resetN = s.resetN := rfl
@[simp] theorem State.setChan_estopN (s : State) (c : ChanId) (ch : Channel) : (s.setChan c ch).estopN = s.estopN := rfl
@[simp] theorem State.setChan_maint (s : State) (c : ChanId) (ch : Channel) : (s.setChan c ch).maint = s.maint := rfl
@[simp] theorem State.setChan_addrStrap (s : State) (c : ChanId) (ch : Channel) : (s.setChan c ch).addrStrap = s.addrStrap := rfl
@[simp] theorem State.setChan_rateStrap (s : State) (c : ChanId) (ch : Channel) : (s.setChan c ch).rateStrap = s.rateStrap := rfl
@[simp] theorem State.setChan_engine (s : State) (c : ChanId) (ch : Channel) : (s.setChan c ch).engine = s.engine := rfl
@[simp] theorem State.setChan_clearing (s : State) (c : ChanId) (ch : Channel) : (s.setChan c ch).clearing = s.clearing := rfl
@[simp] theorem State.setChan_timeBase (s : State) (c : ChanId) (ch : Channel) : (s.setChan c ch).timeBase = s.timeBase := rfl
@[simp] theorem State.setChan_upRx (s : State) (c : ChanId) (ch : Channel) : (s.setChan c ch).upRx = s.upRx := rfl
@[simp] theorem State.setChan_dnRx (s : State) (c : ChanId) (ch : Channel) : (s.setChan c ch).dnRx = s.dnRx := rfl
@[simp] theorem State.setChan_upTx (s : State) (c : ChanId) (ch : Channel) : (s.setChan c ch).upTx = s.upTx := rfl
@[simp] theorem State.setChan_dnTx (s : State) (c : ChanId) (ch : Channel) : (s.setChan c ch).dnTx = s.dnTx := rfl
@[simp] theorem State.setChan_relayDown (s : State) (c : ChanId) (ch : Channel) : (s.setChan c ch).relayDown = s.relayDown := rfl
@[simp] theorem State.setChan_relayUp (s : State) (c : ChanId) (ch : Channel) : (s.setChan c ch).relayUp = s.relayUp := rfl
@[simp] theorem State.setChan_link (s : State) (c : ChanId) (ch : Channel) : (s.setChan c ch).link = s.link := rfl
@[simp] theorem State.setChan_relayWait (s : State) (c : ChanId) (ch : Channel) : (s.setChan c ch).relayWait = s.relayWait := rfl
@[simp] theorem State.setChan_upServed (s : State) (c : ChanId) (ch : Channel) : (s.setChan c ch).upServed = s.upServed := rfl
@[simp] theorem State.setChan_acceptTable (s : State) (c : ChanId) (ch : Channel) : (s.setChan c ch).acceptTable = s.acceptTable := rfl
@[simp] theorem State.setChan_stepTable (s : State) (c : ChanId) (ch : Channel) : (s.setChan c ch).stepTable = s.stepTable := rfl
@[simp] theorem State.setChan_programTable (s : State) (c : ChanId) (ch : Channel) : (s.setChan c ch).programTable = s.programTable := rfl
@[simp] theorem State.setChan_segmentTable (s : State) (c : ChanId) (ch : Channel) : (s.setChan c ch).segmentTable = s.segmentTable := rfl
@[simp] theorem State.setChan_profileTable (s : State) (c : ChanId) (ch : Channel) : (s.setChan c ch).profileTable = s.profileTable := rfl
@[simp] theorem State.setChan_limitTable (s : State) (c : ChanId) (ch : Channel) : (s.setChan c ch).limitTable = s.limitTable := rfl
@[simp] theorem State.setChan_configTable (s : State) (c : ChanId) (ch : Channel) : (s.setChan c ch).configTable = s.configTable := rfl
@[simp] theorem State.setChan_requests (s : State) (c : ChanId) (ch : Channel) : (s.setChan c ch).requests = s.requests := rfl
@[simp] theorem State.setChan_answers (s : State) (c : ChanId) (ch : Channel) : (s.setChan c ch).answers = s.answers := rfl
@[simp] theorem State.setChan_job (s : State) (c : ChanId) (ch : Channel) : (s.setChan c ch).job = s.job := rfl
@[simp] theorem State.setChan_resetPending (s : State) (c : ChanId) (ch : Channel) : (s.setChan c ch).resetPending = s.resetPending := rfl
@[simp] theorem State.setChan_reports (s : State) (c : ChanId) (ch : Channel) : (s.setChan c ch).reports = s.reports := rfl
@[simp] theorem State.setChan_dropCount (s : State) (c : ChanId) (ch : Channel) : (s.setChan c ch).dropCount = s.dropCount := rfl
@[simp] theorem State.setChan_fetchQueue (s : State) (c : ChanId) (ch : Channel) : (s.setChan c ch).fetchQueue = s.fetchQueue := rfl
@[simp] theorem State.setChan_port (s : State) (c : ChanId) (ch : Channel) : (s.setChan c ch).port = s.port := rfl
@[simp] theorem State.setChan_portLast (s : State) (c : ChanId) (ch : Channel) : (s.setChan c ch).portLast = s.portLast := rfl
@[simp] theorem State.setChan_readRaces (s : State) (c : ChanId) (ch : Channel) : (s.setChan c ch).readRaces = s.readRaces := rfl
@[simp] theorem State.setChan_nextSince (s : State) (c : ChanId) (ch : Channel) : (s.setChan c ch).nextSince = s.nextSince := rfl
@[simp] theorem State.setChan_cfg (s : State) (c : ChanId) (ch : Channel) (x : ChanId) : (s.setChan c ch).cfg x = s.cfg x := rfl
@[simp] theorem State.setChan_limits (s : State) (c : ChanId) (ch : Channel) (x : ChanId) : (s.setChan c ch).limits x = s.limits x := rfl
@[simp] theorem State.setChan_programDesc (s : State) (c : ChanId) (ch : Channel) (x : Nat) : (s.setChan c ch).programDesc x = s.programDesc x := rfl
@[simp] theorem State.setChan_segment (s : State) (c : ChanId) (ch : Channel) (x : Nat) : (s.setChan c ch).segment x = s.segment x := rfl
@[simp] theorem State.setChan_profileDesc (s : State) (c : ChanId) (ch : Channel) (x : Nat) : (s.setChan c ch).profileDesc x = s.profileDesc x := rfl
@[simp] theorem State.setChan_limitSet (s : State) (c : ChanId) (ch : Channel) (x : Nat) : (s.setChan c ch).limitSet x = s.limitSet x := rfl
@[simp] theorem State.setChan_stepRec (s : State) (c : ChanId) (ch : Channel) (x : Nat) : (s.setChan c ch).stepRec x = s.stepRec x := rfl
@[simp] theorem State.setChan_tickIn (s : State) (c : ChanId) (ch : Channel) (x : Nat) : (s.setChan c ch).tickIn x = s.tickIn x := rfl
@[simp] theorem State.setChan_engineAddress (s : State) (c : ChanId) (ch : Channel) : (s.setChan c ch).engineAddress = s.engineAddress := rfl
@[simp] theorem State.setChan_inReset (s : State) (c : ChanId) (ch : Channel) : (s.setChan c ch).inReset = s.inReset := rfl

/-! ### State.modChan -/

@[simp] theorem State.modChan_pending (s : State) (c : ChanId) (f : Channel → Channel) : (s.modChan c f).pending = s.pending := rfl
@[simp] theorem State.modChan_resetN (s : State) (c : ChanId) (f : Channel → Channel) : (s.modChan c f).resetN = s.resetN := rfl
@[simp] theorem State.modChan_estopN (s : State) (c : ChanId) (f : Channel → Channel) : (s.modChan c f).estopN = s.estopN := rfl
@[simp] theorem State.modChan_maint (s : State) (c : ChanId) (f : Channel → Channel) : (s.modChan c f).maint = s.maint := rfl
@[simp] theorem State.modChan_addrStrap (s : State) (c : ChanId) (f : Channel → Channel) : (s.modChan c f).addrStrap = s.addrStrap := rfl
@[simp] theorem State.modChan_rateStrap (s : State) (c : ChanId) (f : Channel → Channel) : (s.modChan c f).rateStrap = s.rateStrap := rfl
@[simp] theorem State.modChan_engine (s : State) (c : ChanId) (f : Channel → Channel) : (s.modChan c f).engine = s.engine := rfl
@[simp] theorem State.modChan_clearing (s : State) (c : ChanId) (f : Channel → Channel) : (s.modChan c f).clearing = s.clearing := rfl
@[simp] theorem State.modChan_timeBase (s : State) (c : ChanId) (f : Channel → Channel) : (s.modChan c f).timeBase = s.timeBase := rfl
@[simp] theorem State.modChan_upRx (s : State) (c : ChanId) (f : Channel → Channel) : (s.modChan c f).upRx = s.upRx := rfl
@[simp] theorem State.modChan_dnRx (s : State) (c : ChanId) (f : Channel → Channel) : (s.modChan c f).dnRx = s.dnRx := rfl
@[simp] theorem State.modChan_upTx (s : State) (c : ChanId) (f : Channel → Channel) : (s.modChan c f).upTx = s.upTx := rfl
@[simp] theorem State.modChan_dnTx (s : State) (c : ChanId) (f : Channel → Channel) : (s.modChan c f).dnTx = s.dnTx := rfl
@[simp] theorem State.modChan_relayDown (s : State) (c : ChanId) (f : Channel → Channel) : (s.modChan c f).relayDown = s.relayDown := rfl
@[simp] theorem State.modChan_relayUp (s : State) (c : ChanId) (f : Channel → Channel) : (s.modChan c f).relayUp = s.relayUp := rfl
@[simp] theorem State.modChan_link (s : State) (c : ChanId) (f : Channel → Channel) : (s.modChan c f).link = s.link := rfl
@[simp] theorem State.modChan_relayWait (s : State) (c : ChanId) (f : Channel → Channel) : (s.modChan c f).relayWait = s.relayWait := rfl
@[simp] theorem State.modChan_upServed (s : State) (c : ChanId) (f : Channel → Channel) : (s.modChan c f).upServed = s.upServed := rfl
@[simp] theorem State.modChan_acceptTable (s : State) (c : ChanId) (f : Channel → Channel) : (s.modChan c f).acceptTable = s.acceptTable := rfl
@[simp] theorem State.modChan_stepTable (s : State) (c : ChanId) (f : Channel → Channel) : (s.modChan c f).stepTable = s.stepTable := rfl
@[simp] theorem State.modChan_programTable (s : State) (c : ChanId) (f : Channel → Channel) : (s.modChan c f).programTable = s.programTable := rfl
@[simp] theorem State.modChan_segmentTable (s : State) (c : ChanId) (f : Channel → Channel) : (s.modChan c f).segmentTable = s.segmentTable := rfl
@[simp] theorem State.modChan_profileTable (s : State) (c : ChanId) (f : Channel → Channel) : (s.modChan c f).profileTable = s.profileTable := rfl
@[simp] theorem State.modChan_limitTable (s : State) (c : ChanId) (f : Channel → Channel) : (s.modChan c f).limitTable = s.limitTable := rfl
@[simp] theorem State.modChan_configTable (s : State) (c : ChanId) (f : Channel → Channel) : (s.modChan c f).configTable = s.configTable := rfl
@[simp] theorem State.modChan_requests (s : State) (c : ChanId) (f : Channel → Channel) : (s.modChan c f).requests = s.requests := rfl
@[simp] theorem State.modChan_answers (s : State) (c : ChanId) (f : Channel → Channel) : (s.modChan c f).answers = s.answers := rfl
@[simp] theorem State.modChan_job (s : State) (c : ChanId) (f : Channel → Channel) : (s.modChan c f).job = s.job := rfl
@[simp] theorem State.modChan_resetPending (s : State) (c : ChanId) (f : Channel → Channel) : (s.modChan c f).resetPending = s.resetPending := rfl
@[simp] theorem State.modChan_reports (s : State) (c : ChanId) (f : Channel → Channel) : (s.modChan c f).reports = s.reports := rfl
@[simp] theorem State.modChan_dropCount (s : State) (c : ChanId) (f : Channel → Channel) : (s.modChan c f).dropCount = s.dropCount := rfl
@[simp] theorem State.modChan_fetchQueue (s : State) (c : ChanId) (f : Channel → Channel) : (s.modChan c f).fetchQueue = s.fetchQueue := rfl
@[simp] theorem State.modChan_port (s : State) (c : ChanId) (f : Channel → Channel) : (s.modChan c f).port = s.port := rfl
@[simp] theorem State.modChan_portLast (s : State) (c : ChanId) (f : Channel → Channel) : (s.modChan c f).portLast = s.portLast := rfl
@[simp] theorem State.modChan_readRaces (s : State) (c : ChanId) (f : Channel → Channel) : (s.modChan c f).readRaces = s.readRaces := rfl
@[simp] theorem State.modChan_nextSince (s : State) (c : ChanId) (f : Channel → Channel) : (s.modChan c f).nextSince = s.nextSince := rfl
@[simp] theorem State.modChan_cfg (s : State) (c : ChanId) (f : Channel → Channel) (x : ChanId) : (s.modChan c f).cfg x = s.cfg x := rfl
@[simp] theorem State.modChan_limits (s : State) (c : ChanId) (f : Channel → Channel) (x : ChanId) : (s.modChan c f).limits x = s.limits x := rfl
@[simp] theorem State.modChan_programDesc (s : State) (c : ChanId) (f : Channel → Channel) (x : Nat) : (s.modChan c f).programDesc x = s.programDesc x := rfl
@[simp] theorem State.modChan_segment (s : State) (c : ChanId) (f : Channel → Channel) (x : Nat) : (s.modChan c f).segment x = s.segment x := rfl
@[simp] theorem State.modChan_profileDesc (s : State) (c : ChanId) (f : Channel → Channel) (x : Nat) : (s.modChan c f).profileDesc x = s.profileDesc x := rfl
@[simp] theorem State.modChan_limitSet (s : State) (c : ChanId) (f : Channel → Channel) (x : Nat) : (s.modChan c f).limitSet x = s.limitSet x := rfl
@[simp] theorem State.modChan_stepRec (s : State) (c : ChanId) (f : Channel → Channel) (x : Nat) : (s.modChan c f).stepRec x = s.stepRec x := rfl
@[simp] theorem State.modChan_tickIn (s : State) (c : ChanId) (f : Channel → Channel) (x : Nat) : (s.modChan c f).tickIn x = s.tickIn x := rfl
@[simp] theorem State.modChan_engineAddress (s : State) (c : ChanId) (f : Channel → Channel) : (s.modChan c f).engineAddress = s.engineAddress := rfl
@[simp] theorem State.modChan_inReset (s : State) (c : ChanId) (f : Channel → Channel) : (s.modChan c f).inReset = s.inReset := rfl

/-! ### State.modTrack -/

@[simp] theorem State.modTrack_pending (s : State) (c : ChanId) (f : Tracking → Tracking) : (s.modTrack c f).pending = s.pending := rfl
@[simp] theorem State.modTrack_resetN (s : State) (c : ChanId) (f : Tracking → Tracking) : (s.modTrack c f).resetN = s.resetN := rfl
@[simp] theorem State.modTrack_estopN (s : State) (c : ChanId) (f : Tracking → Tracking) : (s.modTrack c f).estopN = s.estopN := rfl
@[simp] theorem State.modTrack_maint (s : State) (c : ChanId) (f : Tracking → Tracking) : (s.modTrack c f).maint = s.maint := rfl
@[simp] theorem State.modTrack_addrStrap (s : State) (c : ChanId) (f : Tracking → Tracking) : (s.modTrack c f).addrStrap = s.addrStrap := rfl
@[simp] theorem State.modTrack_rateStrap (s : State) (c : ChanId) (f : Tracking → Tracking) : (s.modTrack c f).rateStrap = s.rateStrap := rfl
@[simp] theorem State.modTrack_engine (s : State) (c : ChanId) (f : Tracking → Tracking) : (s.modTrack c f).engine = s.engine := rfl
@[simp] theorem State.modTrack_clearing (s : State) (c : ChanId) (f : Tracking → Tracking) : (s.modTrack c f).clearing = s.clearing := rfl
@[simp] theorem State.modTrack_timeBase (s : State) (c : ChanId) (f : Tracking → Tracking) : (s.modTrack c f).timeBase = s.timeBase := rfl
@[simp] theorem State.modTrack_upRx (s : State) (c : ChanId) (f : Tracking → Tracking) : (s.modTrack c f).upRx = s.upRx := rfl
@[simp] theorem State.modTrack_dnRx (s : State) (c : ChanId) (f : Tracking → Tracking) : (s.modTrack c f).dnRx = s.dnRx := rfl
@[simp] theorem State.modTrack_upTx (s : State) (c : ChanId) (f : Tracking → Tracking) : (s.modTrack c f).upTx = s.upTx := rfl
@[simp] theorem State.modTrack_dnTx (s : State) (c : ChanId) (f : Tracking → Tracking) : (s.modTrack c f).dnTx = s.dnTx := rfl
@[simp] theorem State.modTrack_relayDown (s : State) (c : ChanId) (f : Tracking → Tracking) : (s.modTrack c f).relayDown = s.relayDown := rfl
@[simp] theorem State.modTrack_relayUp (s : State) (c : ChanId) (f : Tracking → Tracking) : (s.modTrack c f).relayUp = s.relayUp := rfl
@[simp] theorem State.modTrack_link (s : State) (c : ChanId) (f : Tracking → Tracking) : (s.modTrack c f).link = s.link := rfl
@[simp] theorem State.modTrack_relayWait (s : State) (c : ChanId) (f : Tracking → Tracking) : (s.modTrack c f).relayWait = s.relayWait := rfl
@[simp] theorem State.modTrack_upServed (s : State) (c : ChanId) (f : Tracking → Tracking) : (s.modTrack c f).upServed = s.upServed := rfl
@[simp] theorem State.modTrack_acceptTable (s : State) (c : ChanId) (f : Tracking → Tracking) : (s.modTrack c f).acceptTable = s.acceptTable := rfl
@[simp] theorem State.modTrack_stepTable (s : State) (c : ChanId) (f : Tracking → Tracking) : (s.modTrack c f).stepTable = s.stepTable := rfl
@[simp] theorem State.modTrack_programTable (s : State) (c : ChanId) (f : Tracking → Tracking) : (s.modTrack c f).programTable = s.programTable := rfl
@[simp] theorem State.modTrack_segmentTable (s : State) (c : ChanId) (f : Tracking → Tracking) : (s.modTrack c f).segmentTable = s.segmentTable := rfl
@[simp] theorem State.modTrack_profileTable (s : State) (c : ChanId) (f : Tracking → Tracking) : (s.modTrack c f).profileTable = s.profileTable := rfl
@[simp] theorem State.modTrack_limitTable (s : State) (c : ChanId) (f : Tracking → Tracking) : (s.modTrack c f).limitTable = s.limitTable := rfl
@[simp] theorem State.modTrack_configTable (s : State) (c : ChanId) (f : Tracking → Tracking) : (s.modTrack c f).configTable = s.configTable := rfl
@[simp] theorem State.modTrack_requests (s : State) (c : ChanId) (f : Tracking → Tracking) : (s.modTrack c f).requests = s.requests := rfl
@[simp] theorem State.modTrack_answers (s : State) (c : ChanId) (f : Tracking → Tracking) : (s.modTrack c f).answers = s.answers := rfl
@[simp] theorem State.modTrack_job (s : State) (c : ChanId) (f : Tracking → Tracking) : (s.modTrack c f).job = s.job := rfl
@[simp] theorem State.modTrack_resetPending (s : State) (c : ChanId) (f : Tracking → Tracking) : (s.modTrack c f).resetPending = s.resetPending := rfl
@[simp] theorem State.modTrack_reports (s : State) (c : ChanId) (f : Tracking → Tracking) : (s.modTrack c f).reports = s.reports := rfl
@[simp] theorem State.modTrack_dropCount (s : State) (c : ChanId) (f : Tracking → Tracking) : (s.modTrack c f).dropCount = s.dropCount := rfl
@[simp] theorem State.modTrack_fetchQueue (s : State) (c : ChanId) (f : Tracking → Tracking) : (s.modTrack c f).fetchQueue = s.fetchQueue := rfl
@[simp] theorem State.modTrack_port (s : State) (c : ChanId) (f : Tracking → Tracking) : (s.modTrack c f).port = s.port := rfl
@[simp] theorem State.modTrack_portLast (s : State) (c : ChanId) (f : Tracking → Tracking) : (s.modTrack c f).portLast = s.portLast := rfl
@[simp] theorem State.modTrack_readRaces (s : State) (c : ChanId) (f : Tracking → Tracking) : (s.modTrack c f).readRaces = s.readRaces := rfl
@[simp] theorem State.modTrack_nextSince (s : State) (c : ChanId) (f : Tracking → Tracking) : (s.modTrack c f).nextSince = s.nextSince := rfl
@[simp] theorem State.modTrack_cfg (s : State) (c : ChanId) (f : Tracking → Tracking) (x : ChanId) : (s.modTrack c f).cfg x = s.cfg x := rfl
@[simp] theorem State.modTrack_limits (s : State) (c : ChanId) (f : Tracking → Tracking) (x : ChanId) : (s.modTrack c f).limits x = s.limits x := rfl
@[simp] theorem State.modTrack_programDesc (s : State) (c : ChanId) (f : Tracking → Tracking) (x : Nat) : (s.modTrack c f).programDesc x = s.programDesc x := rfl
@[simp] theorem State.modTrack_segment (s : State) (c : ChanId) (f : Tracking → Tracking) (x : Nat) : (s.modTrack c f).segment x = s.segment x := rfl
@[simp] theorem State.modTrack_profileDesc (s : State) (c : ChanId) (f : Tracking → Tracking) (x : Nat) : (s.modTrack c f).profileDesc x = s.profileDesc x := rfl
@[simp] theorem State.modTrack_limitSet (s : State) (c : ChanId) (f : Tracking → Tracking) (x : Nat) : (s.modTrack c f).limitSet x = s.limitSet x := rfl
@[simp] theorem State.modTrack_stepRec (s : State) (c : ChanId) (f : Tracking → Tracking) (x : Nat) : (s.modTrack c f).stepRec x = s.stepRec x := rfl
@[simp] theorem State.modTrack_tickIn (s : State) (c : ChanId) (f : Tracking → Tracking) (x : Nat) : (s.modTrack c f).tickIn x = s.tickIn x := rfl
@[simp] theorem State.modTrack_engineAddress (s : State) (c : ChanId) (f : Tracking → Tracking) : (s.modTrack c f).engineAddress = s.engineAddress := rfl
@[simp] theorem State.modTrack_inReset (s : State) (c : ChanId) (f : Tracking → Tracking) : (s.modTrack c f).inReset = s.inReset := rfl

/-! ### State.modAcct -/

@[simp] theorem State.modAcct_pending (s : State) (c : ChanId) (f : Accounts → Accounts) : (s.modAcct c f).pending = s.pending := rfl
@[simp] theorem State.modAcct_resetN (s : State) (c : ChanId) (f : Accounts → Accounts) : (s.modAcct c f).resetN = s.resetN := rfl
@[simp] theorem State.modAcct_estopN (s : State) (c : ChanId) (f : Accounts → Accounts) : (s.modAcct c f).estopN = s.estopN := rfl
@[simp] theorem State.modAcct_maint (s : State) (c : ChanId) (f : Accounts → Accounts) : (s.modAcct c f).maint = s.maint := rfl
@[simp] theorem State.modAcct_addrStrap (s : State) (c : ChanId) (f : Accounts → Accounts) : (s.modAcct c f).addrStrap = s.addrStrap := rfl
@[simp] theorem State.modAcct_rateStrap (s : State) (c : ChanId) (f : Accounts → Accounts) : (s.modAcct c f).rateStrap = s.rateStrap := rfl
@[simp] theorem State.modAcct_engine (s : State) (c : ChanId) (f : Accounts → Accounts) : (s.modAcct c f).engine = s.engine := rfl
@[simp] theorem State.modAcct_clearing (s : State) (c : ChanId) (f : Accounts → Accounts) : (s.modAcct c f).clearing = s.clearing := rfl
@[simp] theorem State.modAcct_timeBase (s : State) (c : ChanId) (f : Accounts → Accounts) : (s.modAcct c f).timeBase = s.timeBase := rfl
@[simp] theorem State.modAcct_upRx (s : State) (c : ChanId) (f : Accounts → Accounts) : (s.modAcct c f).upRx = s.upRx := rfl
@[simp] theorem State.modAcct_dnRx (s : State) (c : ChanId) (f : Accounts → Accounts) : (s.modAcct c f).dnRx = s.dnRx := rfl
@[simp] theorem State.modAcct_upTx (s : State) (c : ChanId) (f : Accounts → Accounts) : (s.modAcct c f).upTx = s.upTx := rfl
@[simp] theorem State.modAcct_dnTx (s : State) (c : ChanId) (f : Accounts → Accounts) : (s.modAcct c f).dnTx = s.dnTx := rfl
@[simp] theorem State.modAcct_relayDown (s : State) (c : ChanId) (f : Accounts → Accounts) : (s.modAcct c f).relayDown = s.relayDown := rfl
@[simp] theorem State.modAcct_relayUp (s : State) (c : ChanId) (f : Accounts → Accounts) : (s.modAcct c f).relayUp = s.relayUp := rfl
@[simp] theorem State.modAcct_link (s : State) (c : ChanId) (f : Accounts → Accounts) : (s.modAcct c f).link = s.link := rfl
@[simp] theorem State.modAcct_relayWait (s : State) (c : ChanId) (f : Accounts → Accounts) : (s.modAcct c f).relayWait = s.relayWait := rfl
@[simp] theorem State.modAcct_upServed (s : State) (c : ChanId) (f : Accounts → Accounts) : (s.modAcct c f).upServed = s.upServed := rfl
@[simp] theorem State.modAcct_acceptTable (s : State) (c : ChanId) (f : Accounts → Accounts) : (s.modAcct c f).acceptTable = s.acceptTable := rfl
@[simp] theorem State.modAcct_stepTable (s : State) (c : ChanId) (f : Accounts → Accounts) : (s.modAcct c f).stepTable = s.stepTable := rfl
@[simp] theorem State.modAcct_programTable (s : State) (c : ChanId) (f : Accounts → Accounts) : (s.modAcct c f).programTable = s.programTable := rfl
@[simp] theorem State.modAcct_segmentTable (s : State) (c : ChanId) (f : Accounts → Accounts) : (s.modAcct c f).segmentTable = s.segmentTable := rfl
@[simp] theorem State.modAcct_profileTable (s : State) (c : ChanId) (f : Accounts → Accounts) : (s.modAcct c f).profileTable = s.profileTable := rfl
@[simp] theorem State.modAcct_limitTable (s : State) (c : ChanId) (f : Accounts → Accounts) : (s.modAcct c f).limitTable = s.limitTable := rfl
@[simp] theorem State.modAcct_configTable (s : State) (c : ChanId) (f : Accounts → Accounts) : (s.modAcct c f).configTable = s.configTable := rfl
@[simp] theorem State.modAcct_requests (s : State) (c : ChanId) (f : Accounts → Accounts) : (s.modAcct c f).requests = s.requests := rfl
@[simp] theorem State.modAcct_answers (s : State) (c : ChanId) (f : Accounts → Accounts) : (s.modAcct c f).answers = s.answers := rfl
@[simp] theorem State.modAcct_job (s : State) (c : ChanId) (f : Accounts → Accounts) : (s.modAcct c f).job = s.job := rfl
@[simp] theorem State.modAcct_resetPending (s : State) (c : ChanId) (f : Accounts → Accounts) : (s.modAcct c f).resetPending = s.resetPending := rfl
@[simp] theorem State.modAcct_reports (s : State) (c : ChanId) (f : Accounts → Accounts) : (s.modAcct c f).reports = s.reports := rfl
@[simp] theorem State.modAcct_dropCount (s : State) (c : ChanId) (f : Accounts → Accounts) : (s.modAcct c f).dropCount = s.dropCount := rfl
@[simp] theorem State.modAcct_fetchQueue (s : State) (c : ChanId) (f : Accounts → Accounts) : (s.modAcct c f).fetchQueue = s.fetchQueue := rfl
@[simp] theorem State.modAcct_port (s : State) (c : ChanId) (f : Accounts → Accounts) : (s.modAcct c f).port = s.port := rfl
@[simp] theorem State.modAcct_portLast (s : State) (c : ChanId) (f : Accounts → Accounts) : (s.modAcct c f).portLast = s.portLast := rfl
@[simp] theorem State.modAcct_readRaces (s : State) (c : ChanId) (f : Accounts → Accounts) : (s.modAcct c f).readRaces = s.readRaces := rfl
@[simp] theorem State.modAcct_nextSince (s : State) (c : ChanId) (f : Accounts → Accounts) : (s.modAcct c f).nextSince = s.nextSince := rfl
@[simp] theorem State.modAcct_cfg (s : State) (c : ChanId) (f : Accounts → Accounts) (x : ChanId) : (s.modAcct c f).cfg x = s.cfg x := rfl
@[simp] theorem State.modAcct_limits (s : State) (c : ChanId) (f : Accounts → Accounts) (x : ChanId) : (s.modAcct c f).limits x = s.limits x := rfl
@[simp] theorem State.modAcct_programDesc (s : State) (c : ChanId) (f : Accounts → Accounts) (x : Nat) : (s.modAcct c f).programDesc x = s.programDesc x := rfl
@[simp] theorem State.modAcct_segment (s : State) (c : ChanId) (f : Accounts → Accounts) (x : Nat) : (s.modAcct c f).segment x = s.segment x := rfl
@[simp] theorem State.modAcct_profileDesc (s : State) (c : ChanId) (f : Accounts → Accounts) (x : Nat) : (s.modAcct c f).profileDesc x = s.profileDesc x := rfl
@[simp] theorem State.modAcct_limitSet (s : State) (c : ChanId) (f : Accounts → Accounts) (x : Nat) : (s.modAcct c f).limitSet x = s.limitSet x := rfl
@[simp] theorem State.modAcct_stepRec (s : State) (c : ChanId) (f : Accounts → Accounts) (x : Nat) : (s.modAcct c f).stepRec x = s.stepRec x := rfl
@[simp] theorem State.modAcct_tickIn (s : State) (c : ChanId) (f : Accounts → Accounts) (x : Nat) : (s.modAcct c f).tickIn x = s.tickIn x := rfl
@[simp] theorem State.modAcct_engineAddress (s : State) (c : ChanId) (f : Accounts → Accounts) : (s.modAcct c f).engineAddress = s.engineAddress := rfl
@[simp] theorem State.modAcct_inReset (s : State) (c : ChanId) (f : Accounts → Accounts) : (s.modAcct c f).inReset = s.inReset := rfl

/-! ### State.modSeq -/

@[simp] theorem State.modSeq_pending (s : State) (c : ChanId) (f : Sequencing → Sequencing) : (s.modSeq c f).pending = s.pending := rfl
@[simp] theorem State.modSeq_resetN (s : State) (c : ChanId) (f : Sequencing → Sequencing) : (s.modSeq c f).resetN = s.resetN := rfl
@[simp] theorem State.modSeq_estopN (s : State) (c : ChanId) (f : Sequencing → Sequencing) : (s.modSeq c f).estopN = s.estopN := rfl
@[simp] theorem State.modSeq_maint (s : State) (c : ChanId) (f : Sequencing → Sequencing) : (s.modSeq c f).maint = s.maint := rfl
@[simp] theorem State.modSeq_addrStrap (s : State) (c : ChanId) (f : Sequencing → Sequencing) : (s.modSeq c f).addrStrap = s.addrStrap := rfl
@[simp] theorem State.modSeq_rateStrap (s : State) (c : ChanId) (f : Sequencing → Sequencing) : (s.modSeq c f).rateStrap = s.rateStrap := rfl
@[simp] theorem State.modSeq_engine (s : State) (c : ChanId) (f : Sequencing → Sequencing) : (s.modSeq c f).engine = s.engine := rfl
@[simp] theorem State.modSeq_clearing (s : State) (c : ChanId) (f : Sequencing → Sequencing) : (s.modSeq c f).clearing = s.clearing := rfl
@[simp] theorem State.modSeq_timeBase (s : State) (c : ChanId) (f : Sequencing → Sequencing) : (s.modSeq c f).timeBase = s.timeBase := rfl
@[simp] theorem State.modSeq_upRx (s : State) (c : ChanId) (f : Sequencing → Sequencing) : (s.modSeq c f).upRx = s.upRx := rfl
@[simp] theorem State.modSeq_dnRx (s : State) (c : ChanId) (f : Sequencing → Sequencing) : (s.modSeq c f).dnRx = s.dnRx := rfl
@[simp] theorem State.modSeq_upTx (s : State) (c : ChanId) (f : Sequencing → Sequencing) : (s.modSeq c f).upTx = s.upTx := rfl
@[simp] theorem State.modSeq_dnTx (s : State) (c : ChanId) (f : Sequencing → Sequencing) : (s.modSeq c f).dnTx = s.dnTx := rfl
@[simp] theorem State.modSeq_relayDown (s : State) (c : ChanId) (f : Sequencing → Sequencing) : (s.modSeq c f).relayDown = s.relayDown := rfl
@[simp] theorem State.modSeq_relayUp (s : State) (c : ChanId) (f : Sequencing → Sequencing) : (s.modSeq c f).relayUp = s.relayUp := rfl
@[simp] theorem State.modSeq_link (s : State) (c : ChanId) (f : Sequencing → Sequencing) : (s.modSeq c f).link = s.link := rfl
@[simp] theorem State.modSeq_relayWait (s : State) (c : ChanId) (f : Sequencing → Sequencing) : (s.modSeq c f).relayWait = s.relayWait := rfl
@[simp] theorem State.modSeq_upServed (s : State) (c : ChanId) (f : Sequencing → Sequencing) : (s.modSeq c f).upServed = s.upServed := rfl
@[simp] theorem State.modSeq_acceptTable (s : State) (c : ChanId) (f : Sequencing → Sequencing) : (s.modSeq c f).acceptTable = s.acceptTable := rfl
@[simp] theorem State.modSeq_stepTable (s : State) (c : ChanId) (f : Sequencing → Sequencing) : (s.modSeq c f).stepTable = s.stepTable := rfl
@[simp] theorem State.modSeq_programTable (s : State) (c : ChanId) (f : Sequencing → Sequencing) : (s.modSeq c f).programTable = s.programTable := rfl
@[simp] theorem State.modSeq_segmentTable (s : State) (c : ChanId) (f : Sequencing → Sequencing) : (s.modSeq c f).segmentTable = s.segmentTable := rfl
@[simp] theorem State.modSeq_profileTable (s : State) (c : ChanId) (f : Sequencing → Sequencing) : (s.modSeq c f).profileTable = s.profileTable := rfl
@[simp] theorem State.modSeq_limitTable (s : State) (c : ChanId) (f : Sequencing → Sequencing) : (s.modSeq c f).limitTable = s.limitTable := rfl
@[simp] theorem State.modSeq_configTable (s : State) (c : ChanId) (f : Sequencing → Sequencing) : (s.modSeq c f).configTable = s.configTable := rfl
@[simp] theorem State.modSeq_requests (s : State) (c : ChanId) (f : Sequencing → Sequencing) : (s.modSeq c f).requests = s.requests := rfl
@[simp] theorem State.modSeq_answers (s : State) (c : ChanId) (f : Sequencing → Sequencing) : (s.modSeq c f).answers = s.answers := rfl
@[simp] theorem State.modSeq_job (s : State) (c : ChanId) (f : Sequencing → Sequencing) : (s.modSeq c f).job = s.job := rfl
@[simp] theorem State.modSeq_resetPending (s : State) (c : ChanId) (f : Sequencing → Sequencing) : (s.modSeq c f).resetPending = s.resetPending := rfl
@[simp] theorem State.modSeq_reports (s : State) (c : ChanId) (f : Sequencing → Sequencing) : (s.modSeq c f).reports = s.reports := rfl
@[simp] theorem State.modSeq_dropCount (s : State) (c : ChanId) (f : Sequencing → Sequencing) : (s.modSeq c f).dropCount = s.dropCount := rfl
@[simp] theorem State.modSeq_fetchQueue (s : State) (c : ChanId) (f : Sequencing → Sequencing) : (s.modSeq c f).fetchQueue = s.fetchQueue := rfl
@[simp] theorem State.modSeq_port (s : State) (c : ChanId) (f : Sequencing → Sequencing) : (s.modSeq c f).port = s.port := rfl
@[simp] theorem State.modSeq_portLast (s : State) (c : ChanId) (f : Sequencing → Sequencing) : (s.modSeq c f).portLast = s.portLast := rfl
@[simp] theorem State.modSeq_readRaces (s : State) (c : ChanId) (f : Sequencing → Sequencing) : (s.modSeq c f).readRaces = s.readRaces := rfl
@[simp] theorem State.modSeq_nextSince (s : State) (c : ChanId) (f : Sequencing → Sequencing) : (s.modSeq c f).nextSince = s.nextSince := rfl
@[simp] theorem State.modSeq_cfg (s : State) (c : ChanId) (f : Sequencing → Sequencing) (x : ChanId) : (s.modSeq c f).cfg x = s.cfg x := rfl
@[simp] theorem State.modSeq_limits (s : State) (c : ChanId) (f : Sequencing → Sequencing) (x : ChanId) : (s.modSeq c f).limits x = s.limits x := rfl
@[simp] theorem State.modSeq_programDesc (s : State) (c : ChanId) (f : Sequencing → Sequencing) (x : Nat) : (s.modSeq c f).programDesc x = s.programDesc x := rfl
@[simp] theorem State.modSeq_segment (s : State) (c : ChanId) (f : Sequencing → Sequencing) (x : Nat) : (s.modSeq c f).segment x = s.segment x := rfl
@[simp] theorem State.modSeq_profileDesc (s : State) (c : ChanId) (f : Sequencing → Sequencing) (x : Nat) : (s.modSeq c f).profileDesc x = s.profileDesc x := rfl
@[simp] theorem State.modSeq_limitSet (s : State) (c : ChanId) (f : Sequencing → Sequencing) (x : Nat) : (s.modSeq c f).limitSet x = s.limitSet x := rfl
@[simp] theorem State.modSeq_stepRec (s : State) (c : ChanId) (f : Sequencing → Sequencing) (x : Nat) : (s.modSeq c f).stepRec x = s.stepRec x := rfl
@[simp] theorem State.modSeq_tickIn (s : State) (c : ChanId) (f : Sequencing → Sequencing) (x : Nat) : (s.modSeq c f).tickIn x = s.tickIn x := rfl
@[simp] theorem State.modSeq_engineAddress (s : State) (c : ChanId) (f : Sequencing → Sequencing) : (s.modSeq c f).engineAddress = s.engineAddress := rfl
@[simp] theorem State.modSeq_inReset (s : State) (c : ChanId) (f : Sequencing → Sequencing) : (s.modSeq c f).inReset = s.inReset := rfl

/-! ### State.modSp -/

@[simp] theorem State.modSp_pending (s : State) (c : ChanId) (f : Setpoint → Setpoint) : (s.modSp c f).pending = s.pending := rfl
@[simp] theorem State.modSp_resetN (s : State) (c : ChanId) (f : Setpoint → Setpoint) : (s.modSp c f).resetN = s.resetN := rfl
@[simp] theorem State.modSp_estopN (s : State) (c : ChanId) (f : Setpoint → Setpoint) : (s.modSp c f).estopN = s.estopN := rfl
@[simp] theorem State.modSp_maint (s : State) (c : ChanId) (f : Setpoint → Setpoint) : (s.modSp c f).maint = s.maint := rfl
@[simp] theorem State.modSp_addrStrap (s : State) (c : ChanId) (f : Setpoint → Setpoint) : (s.modSp c f).addrStrap = s.addrStrap := rfl
@[simp] theorem State.modSp_rateStrap (s : State) (c : ChanId) (f : Setpoint → Setpoint) : (s.modSp c f).rateStrap = s.rateStrap := rfl
@[simp] theorem State.modSp_engine (s : State) (c : ChanId) (f : Setpoint → Setpoint) : (s.modSp c f).engine = s.engine := rfl
@[simp] theorem State.modSp_clearing (s : State) (c : ChanId) (f : Setpoint → Setpoint) : (s.modSp c f).clearing = s.clearing := rfl
@[simp] theorem State.modSp_timeBase (s : State) (c : ChanId) (f : Setpoint → Setpoint) : (s.modSp c f).timeBase = s.timeBase := rfl
@[simp] theorem State.modSp_upRx (s : State) (c : ChanId) (f : Setpoint → Setpoint) : (s.modSp c f).upRx = s.upRx := rfl
@[simp] theorem State.modSp_dnRx (s : State) (c : ChanId) (f : Setpoint → Setpoint) : (s.modSp c f).dnRx = s.dnRx := rfl
@[simp] theorem State.modSp_upTx (s : State) (c : ChanId) (f : Setpoint → Setpoint) : (s.modSp c f).upTx = s.upTx := rfl
@[simp] theorem State.modSp_dnTx (s : State) (c : ChanId) (f : Setpoint → Setpoint) : (s.modSp c f).dnTx = s.dnTx := rfl
@[simp] theorem State.modSp_relayDown (s : State) (c : ChanId) (f : Setpoint → Setpoint) : (s.modSp c f).relayDown = s.relayDown := rfl
@[simp] theorem State.modSp_relayUp (s : State) (c : ChanId) (f : Setpoint → Setpoint) : (s.modSp c f).relayUp = s.relayUp := rfl
@[simp] theorem State.modSp_link (s : State) (c : ChanId) (f : Setpoint → Setpoint) : (s.modSp c f).link = s.link := rfl
@[simp] theorem State.modSp_relayWait (s : State) (c : ChanId) (f : Setpoint → Setpoint) : (s.modSp c f).relayWait = s.relayWait := rfl
@[simp] theorem State.modSp_upServed (s : State) (c : ChanId) (f : Setpoint → Setpoint) : (s.modSp c f).upServed = s.upServed := rfl
@[simp] theorem State.modSp_acceptTable (s : State) (c : ChanId) (f : Setpoint → Setpoint) : (s.modSp c f).acceptTable = s.acceptTable := rfl
@[simp] theorem State.modSp_stepTable (s : State) (c : ChanId) (f : Setpoint → Setpoint) : (s.modSp c f).stepTable = s.stepTable := rfl
@[simp] theorem State.modSp_programTable (s : State) (c : ChanId) (f : Setpoint → Setpoint) : (s.modSp c f).programTable = s.programTable := rfl
@[simp] theorem State.modSp_segmentTable (s : State) (c : ChanId) (f : Setpoint → Setpoint) : (s.modSp c f).segmentTable = s.segmentTable := rfl
@[simp] theorem State.modSp_profileTable (s : State) (c : ChanId) (f : Setpoint → Setpoint) : (s.modSp c f).profileTable = s.profileTable := rfl
@[simp] theorem State.modSp_limitTable (s : State) (c : ChanId) (f : Setpoint → Setpoint) : (s.modSp c f).limitTable = s.limitTable := rfl
@[simp] theorem State.modSp_configTable (s : State) (c : ChanId) (f : Setpoint → Setpoint) : (s.modSp c f).configTable = s.configTable := rfl
@[simp] theorem State.modSp_requests (s : State) (c : ChanId) (f : Setpoint → Setpoint) : (s.modSp c f).requests = s.requests := rfl
@[simp] theorem State.modSp_answers (s : State) (c : ChanId) (f : Setpoint → Setpoint) : (s.modSp c f).answers = s.answers := rfl
@[simp] theorem State.modSp_job (s : State) (c : ChanId) (f : Setpoint → Setpoint) : (s.modSp c f).job = s.job := rfl
@[simp] theorem State.modSp_resetPending (s : State) (c : ChanId) (f : Setpoint → Setpoint) : (s.modSp c f).resetPending = s.resetPending := rfl
@[simp] theorem State.modSp_reports (s : State) (c : ChanId) (f : Setpoint → Setpoint) : (s.modSp c f).reports = s.reports := rfl
@[simp] theorem State.modSp_dropCount (s : State) (c : ChanId) (f : Setpoint → Setpoint) : (s.modSp c f).dropCount = s.dropCount := rfl
@[simp] theorem State.modSp_fetchQueue (s : State) (c : ChanId) (f : Setpoint → Setpoint) : (s.modSp c f).fetchQueue = s.fetchQueue := rfl
@[simp] theorem State.modSp_port (s : State) (c : ChanId) (f : Setpoint → Setpoint) : (s.modSp c f).port = s.port := rfl
@[simp] theorem State.modSp_portLast (s : State) (c : ChanId) (f : Setpoint → Setpoint) : (s.modSp c f).portLast = s.portLast := rfl
@[simp] theorem State.modSp_readRaces (s : State) (c : ChanId) (f : Setpoint → Setpoint) : (s.modSp c f).readRaces = s.readRaces := rfl
@[simp] theorem State.modSp_nextSince (s : State) (c : ChanId) (f : Setpoint → Setpoint) : (s.modSp c f).nextSince = s.nextSince := rfl
@[simp] theorem State.modSp_cfg (s : State) (c : ChanId) (f : Setpoint → Setpoint) (x : ChanId) : (s.modSp c f).cfg x = s.cfg x := rfl
@[simp] theorem State.modSp_limits (s : State) (c : ChanId) (f : Setpoint → Setpoint) (x : ChanId) : (s.modSp c f).limits x = s.limits x := rfl
@[simp] theorem State.modSp_programDesc (s : State) (c : ChanId) (f : Setpoint → Setpoint) (x : Nat) : (s.modSp c f).programDesc x = s.programDesc x := rfl
@[simp] theorem State.modSp_segment (s : State) (c : ChanId) (f : Setpoint → Setpoint) (x : Nat) : (s.modSp c f).segment x = s.segment x := rfl
@[simp] theorem State.modSp_profileDesc (s : State) (c : ChanId) (f : Setpoint → Setpoint) (x : Nat) : (s.modSp c f).profileDesc x = s.profileDesc x := rfl
@[simp] theorem State.modSp_limitSet (s : State) (c : ChanId) (f : Setpoint → Setpoint) (x : Nat) : (s.modSp c f).limitSet x = s.limitSet x := rfl
@[simp] theorem State.modSp_stepRec (s : State) (c : ChanId) (f : Setpoint → Setpoint) (x : Nat) : (s.modSp c f).stepRec x = s.stepRec x := rfl
@[simp] theorem State.modSp_tickIn (s : State) (c : ChanId) (f : Setpoint → Setpoint) (x : Nat) : (s.modSp c f).tickIn x = s.tickIn x := rfl
@[simp] theorem State.modSp_engineAddress (s : State) (c : ChanId) (f : Setpoint → Setpoint) : (s.modSp c f).engineAddress = s.engineAddress := rfl
@[simp] theorem State.modSp_inReset (s : State) (c : ChanId) (f : Setpoint → Setpoint) : (s.modSp c f).inReset = s.inReset := rfl

/-! ### State.modSup -/

@[simp] theorem State.modSup_pending (s : State) (c : ChanId) (f : Supervision → Supervision) : (s.modSup c f).pending = s.pending := rfl
@[simp] theorem State.modSup_resetN (s : State) (c : ChanId) (f : Supervision → Supervision) : (s.modSup c f).resetN = s.resetN := rfl
@[simp] theorem State.modSup_estopN (s : State) (c : ChanId) (f : Supervision → Supervision) : (s.modSup c f).estopN = s.estopN := rfl
@[simp] theorem State.modSup_maint (s : State) (c : ChanId) (f : Supervision → Supervision) : (s.modSup c f).maint = s.maint := rfl
@[simp] theorem State.modSup_addrStrap (s : State) (c : ChanId) (f : Supervision → Supervision) : (s.modSup c f).addrStrap = s.addrStrap := rfl
@[simp] theorem State.modSup_rateStrap (s : State) (c : ChanId) (f : Supervision → Supervision) : (s.modSup c f).rateStrap = s.rateStrap := rfl
@[simp] theorem State.modSup_engine (s : State) (c : ChanId) (f : Supervision → Supervision) : (s.modSup c f).engine = s.engine := rfl
@[simp] theorem State.modSup_clearing (s : State) (c : ChanId) (f : Supervision → Supervision) : (s.modSup c f).clearing = s.clearing := rfl
@[simp] theorem State.modSup_timeBase (s : State) (c : ChanId) (f : Supervision → Supervision) : (s.modSup c f).timeBase = s.timeBase := rfl
@[simp] theorem State.modSup_upRx (s : State) (c : ChanId) (f : Supervision → Supervision) : (s.modSup c f).upRx = s.upRx := rfl
@[simp] theorem State.modSup_dnRx (s : State) (c : ChanId) (f : Supervision → Supervision) : (s.modSup c f).dnRx = s.dnRx := rfl
@[simp] theorem State.modSup_upTx (s : State) (c : ChanId) (f : Supervision → Supervision) : (s.modSup c f).upTx = s.upTx := rfl
@[simp] theorem State.modSup_dnTx (s : State) (c : ChanId) (f : Supervision → Supervision) : (s.modSup c f).dnTx = s.dnTx := rfl
@[simp] theorem State.modSup_relayDown (s : State) (c : ChanId) (f : Supervision → Supervision) : (s.modSup c f).relayDown = s.relayDown := rfl
@[simp] theorem State.modSup_relayUp (s : State) (c : ChanId) (f : Supervision → Supervision) : (s.modSup c f).relayUp = s.relayUp := rfl
@[simp] theorem State.modSup_link (s : State) (c : ChanId) (f : Supervision → Supervision) : (s.modSup c f).link = s.link := rfl
@[simp] theorem State.modSup_relayWait (s : State) (c : ChanId) (f : Supervision → Supervision) : (s.modSup c f).relayWait = s.relayWait := rfl
@[simp] theorem State.modSup_upServed (s : State) (c : ChanId) (f : Supervision → Supervision) : (s.modSup c f).upServed = s.upServed := rfl
@[simp] theorem State.modSup_acceptTable (s : State) (c : ChanId) (f : Supervision → Supervision) : (s.modSup c f).acceptTable = s.acceptTable := rfl
@[simp] theorem State.modSup_stepTable (s : State) (c : ChanId) (f : Supervision → Supervision) : (s.modSup c f).stepTable = s.stepTable := rfl
@[simp] theorem State.modSup_programTable (s : State) (c : ChanId) (f : Supervision → Supervision) : (s.modSup c f).programTable = s.programTable := rfl
@[simp] theorem State.modSup_segmentTable (s : State) (c : ChanId) (f : Supervision → Supervision) : (s.modSup c f).segmentTable = s.segmentTable := rfl
@[simp] theorem State.modSup_profileTable (s : State) (c : ChanId) (f : Supervision → Supervision) : (s.modSup c f).profileTable = s.profileTable := rfl
@[simp] theorem State.modSup_limitTable (s : State) (c : ChanId) (f : Supervision → Supervision) : (s.modSup c f).limitTable = s.limitTable := rfl
@[simp] theorem State.modSup_configTable (s : State) (c : ChanId) (f : Supervision → Supervision) : (s.modSup c f).configTable = s.configTable := rfl
@[simp] theorem State.modSup_requests (s : State) (c : ChanId) (f : Supervision → Supervision) : (s.modSup c f).requests = s.requests := rfl
@[simp] theorem State.modSup_answers (s : State) (c : ChanId) (f : Supervision → Supervision) : (s.modSup c f).answers = s.answers := rfl
@[simp] theorem State.modSup_job (s : State) (c : ChanId) (f : Supervision → Supervision) : (s.modSup c f).job = s.job := rfl
@[simp] theorem State.modSup_resetPending (s : State) (c : ChanId) (f : Supervision → Supervision) : (s.modSup c f).resetPending = s.resetPending := rfl
@[simp] theorem State.modSup_reports (s : State) (c : ChanId) (f : Supervision → Supervision) : (s.modSup c f).reports = s.reports := rfl
@[simp] theorem State.modSup_dropCount (s : State) (c : ChanId) (f : Supervision → Supervision) : (s.modSup c f).dropCount = s.dropCount := rfl
@[simp] theorem State.modSup_fetchQueue (s : State) (c : ChanId) (f : Supervision → Supervision) : (s.modSup c f).fetchQueue = s.fetchQueue := rfl
@[simp] theorem State.modSup_port (s : State) (c : ChanId) (f : Supervision → Supervision) : (s.modSup c f).port = s.port := rfl
@[simp] theorem State.modSup_portLast (s : State) (c : ChanId) (f : Supervision → Supervision) : (s.modSup c f).portLast = s.portLast := rfl
@[simp] theorem State.modSup_readRaces (s : State) (c : ChanId) (f : Supervision → Supervision) : (s.modSup c f).readRaces = s.readRaces := rfl
@[simp] theorem State.modSup_nextSince (s : State) (c : ChanId) (f : Supervision → Supervision) : (s.modSup c f).nextSince = s.nextSince := rfl
@[simp] theorem State.modSup_cfg (s : State) (c : ChanId) (f : Supervision → Supervision) (x : ChanId) : (s.modSup c f).cfg x = s.cfg x := rfl
@[simp] theorem State.modSup_limits (s : State) (c : ChanId) (f : Supervision → Supervision) (x : ChanId) : (s.modSup c f).limits x = s.limits x := rfl
@[simp] theorem State.modSup_programDesc (s : State) (c : ChanId) (f : Supervision → Supervision) (x : Nat) : (s.modSup c f).programDesc x = s.programDesc x := rfl
@[simp] theorem State.modSup_segment (s : State) (c : ChanId) (f : Supervision → Supervision) (x : Nat) : (s.modSup c f).segment x = s.segment x := rfl
@[simp] theorem State.modSup_profileDesc (s : State) (c : ChanId) (f : Supervision → Supervision) (x : Nat) : (s.modSup c f).profileDesc x = s.profileDesc x := rfl
@[simp] theorem State.modSup_limitSet (s : State) (c : ChanId) (f : Supervision → Supervision) (x : Nat) : (s.modSup c f).limitSet x = s.limitSet x := rfl
@[simp] theorem State.modSup_stepRec (s : State) (c : ChanId) (f : Supervision → Supervision) (x : Nat) : (s.modSup c f).stepRec x = s.stepRec x := rfl
@[simp] theorem State.modSup_tickIn (s : State) (c : ChanId) (f : Supervision → Supervision) (x : Nat) : (s.modSup c f).tickIn x = s.tickIn x := rfl
@[simp] theorem State.modSup_engineAddress (s : State) (c : ChanId) (f : Supervision → Supervision) : (s.modSup c f).engineAddress = s.engineAddress := rfl
@[simp] theorem State.modSup_inReset (s : State) (c : ChanId) (f : Supervision → Supervision) : (s.modSup c f).inReset = s.inReset := rfl

/-! ### State.enterFault -/

@[simp] theorem State.enterFault_pending (s : State) (c : ChanId) (e : FaultEntry) : (s.enterFault c e).pending = s.pending := rfl
@[simp] theorem State.enterFault_resetN (s : State) (c : ChanId) (e : FaultEntry) : (s.enterFault c e).resetN = s.resetN := rfl
@[simp] theorem State.enterFault_estopN (s : State) (c : ChanId) (e : FaultEntry) : (s.enterFault c e).estopN = s.estopN := rfl
@[simp] theorem State.enterFault_maint (s : State) (c : ChanId) (e : FaultEntry) : (s.enterFault c e).maint = s.maint := rfl
@[simp] theorem State.enterFault_addrStrap (s : State) (c : ChanId) (e : FaultEntry) : (s.enterFault c e).addrStrap = s.addrStrap := rfl
@[simp] theorem State.enterFault_rateStrap (s : State) (c : ChanId) (e : FaultEntry) : (s.enterFault c e).rateStrap = s.rateStrap := rfl
@[simp] theorem State.enterFault_engine (s : State) (c : ChanId) (e : FaultEntry) : (s.enterFault c e).engine = s.engine := rfl
@[simp] theorem State.enterFault_clearing (s : State) (c : ChanId) (e : FaultEntry) : (s.enterFault c e).clearing = s.clearing := rfl
@[simp] theorem State.enterFault_timeBase (s : State) (c : ChanId) (e : FaultEntry) : (s.enterFault c e).timeBase = s.timeBase := rfl
@[simp] theorem State.enterFault_upRx (s : State) (c : ChanId) (e : FaultEntry) : (s.enterFault c e).upRx = s.upRx := rfl
@[simp] theorem State.enterFault_dnRx (s : State) (c : ChanId) (e : FaultEntry) : (s.enterFault c e).dnRx = s.dnRx := rfl
@[simp] theorem State.enterFault_upTx (s : State) (c : ChanId) (e : FaultEntry) : (s.enterFault c e).upTx = s.upTx := rfl
@[simp] theorem State.enterFault_dnTx (s : State) (c : ChanId) (e : FaultEntry) : (s.enterFault c e).dnTx = s.dnTx := rfl
@[simp] theorem State.enterFault_relayDown (s : State) (c : ChanId) (e : FaultEntry) : (s.enterFault c e).relayDown = s.relayDown := rfl
@[simp] theorem State.enterFault_relayUp (s : State) (c : ChanId) (e : FaultEntry) : (s.enterFault c e).relayUp = s.relayUp := rfl
@[simp] theorem State.enterFault_link (s : State) (c : ChanId) (e : FaultEntry) : (s.enterFault c e).link = s.link := rfl
@[simp] theorem State.enterFault_relayWait (s : State) (c : ChanId) (e : FaultEntry) : (s.enterFault c e).relayWait = s.relayWait := rfl
@[simp] theorem State.enterFault_upServed (s : State) (c : ChanId) (e : FaultEntry) : (s.enterFault c e).upServed = s.upServed := rfl
@[simp] theorem State.enterFault_acceptTable (s : State) (c : ChanId) (e : FaultEntry) : (s.enterFault c e).acceptTable = s.acceptTable := rfl
@[simp] theorem State.enterFault_stepTable (s : State) (c : ChanId) (e : FaultEntry) : (s.enterFault c e).stepTable = s.stepTable := rfl
@[simp] theorem State.enterFault_programTable (s : State) (c : ChanId) (e : FaultEntry) : (s.enterFault c e).programTable = s.programTable := rfl
@[simp] theorem State.enterFault_segmentTable (s : State) (c : ChanId) (e : FaultEntry) : (s.enterFault c e).segmentTable = s.segmentTable := rfl
@[simp] theorem State.enterFault_profileTable (s : State) (c : ChanId) (e : FaultEntry) : (s.enterFault c e).profileTable = s.profileTable := rfl
@[simp] theorem State.enterFault_limitTable (s : State) (c : ChanId) (e : FaultEntry) : (s.enterFault c e).limitTable = s.limitTable := rfl
@[simp] theorem State.enterFault_configTable (s : State) (c : ChanId) (e : FaultEntry) : (s.enterFault c e).configTable = s.configTable := rfl
@[simp] theorem State.enterFault_requests (s : State) (c : ChanId) (e : FaultEntry) : (s.enterFault c e).requests = s.requests := rfl
@[simp] theorem State.enterFault_answers (s : State) (c : ChanId) (e : FaultEntry) : (s.enterFault c e).answers = s.answers := rfl
@[simp] theorem State.enterFault_job (s : State) (c : ChanId) (e : FaultEntry) : (s.enterFault c e).job = s.job := rfl
@[simp] theorem State.enterFault_resetPending (s : State) (c : ChanId) (e : FaultEntry) : (s.enterFault c e).resetPending = s.resetPending := rfl
@[simp] theorem State.enterFault_reports (s : State) (c : ChanId) (e : FaultEntry) : (s.enterFault c e).reports = s.reports := rfl
@[simp] theorem State.enterFault_dropCount (s : State) (c : ChanId) (e : FaultEntry) : (s.enterFault c e).dropCount = s.dropCount := rfl
@[simp] theorem State.enterFault_fetchQueue (s : State) (c : ChanId) (e : FaultEntry) : (s.enterFault c e).fetchQueue = s.fetchQueue := rfl
@[simp] theorem State.enterFault_port (s : State) (c : ChanId) (e : FaultEntry) : (s.enterFault c e).port = s.port := rfl
@[simp] theorem State.enterFault_portLast (s : State) (c : ChanId) (e : FaultEntry) : (s.enterFault c e).portLast = s.portLast := rfl
@[simp] theorem State.enterFault_readRaces (s : State) (c : ChanId) (e : FaultEntry) : (s.enterFault c e).readRaces = s.readRaces := rfl
@[simp] theorem State.enterFault_nextSince (s : State) (c : ChanId) (e : FaultEntry) : (s.enterFault c e).nextSince = s.nextSince := rfl
@[simp] theorem State.enterFault_cfg (s : State) (c : ChanId) (e : FaultEntry) (x : ChanId) : (s.enterFault c e).cfg x = s.cfg x := rfl
@[simp] theorem State.enterFault_limits (s : State) (c : ChanId) (e : FaultEntry) (x : ChanId) : (s.enterFault c e).limits x = s.limits x := rfl
@[simp] theorem State.enterFault_programDesc (s : State) (c : ChanId) (e : FaultEntry) (x : Nat) : (s.enterFault c e).programDesc x = s.programDesc x := rfl
@[simp] theorem State.enterFault_segment (s : State) (c : ChanId) (e : FaultEntry) (x : Nat) : (s.enterFault c e).segment x = s.segment x := rfl
@[simp] theorem State.enterFault_profileDesc (s : State) (c : ChanId) (e : FaultEntry) (x : Nat) : (s.enterFault c e).profileDesc x = s.profileDesc x := rfl
@[simp] theorem State.enterFault_limitSet (s : State) (c : ChanId) (e : FaultEntry) (x : Nat) : (s.enterFault c e).limitSet x = s.limitSet x := rfl
@[simp] theorem State.enterFault_stepRec (s : State) (c : ChanId) (e : FaultEntry) (x : Nat) : (s.enterFault c e).stepRec x = s.stepRec x := rfl
@[simp] theorem State.enterFault_tickIn (s : State) (c : ChanId) (e : FaultEntry) (x : Nat) : (s.enterFault c e).tickIn x = s.tickIn x := rfl
@[simp] theorem State.enterFault_engineAddress (s : State) (c : ChanId) (e : FaultEntry) : (s.enterFault c e).engineAddress = s.engineAddress := rfl
@[simp] theorem State.enterFault_inReset (s : State) (c : ChanId) (e : FaultEntry) : (s.enterFault c e).inReset = s.inReset := rfl

/-! ### State.produce -/

@[simp] theorem State.produce_pending (s : State) (c : ChanId) (b : Body) : (s.produce c b).pending = s.pending := rfl
@[simp] theorem State.produce_resetN (s : State) (c : ChanId) (b : Body) : (s.produce c b).resetN = s.resetN := rfl
@[simp] theorem State.produce_estopN (s : State) (c : ChanId) (b : Body) : (s.produce c b).estopN = s.estopN := rfl
@[simp] theorem State.produce_maint (s : State) (c : ChanId) (b : Body) : (s.produce c b).maint = s.maint := rfl
@[simp] theorem State.produce_addrStrap (s : State) (c : ChanId) (b : Body) : (s.produce c b).addrStrap = s.addrStrap := rfl
@[simp] theorem State.produce_rateStrap (s : State) (c : ChanId) (b : Body) : (s.produce c b).rateStrap = s.rateStrap := rfl
@[simp] theorem State.produce_engine (s : State) (c : ChanId) (b : Body) : (s.produce c b).engine = s.engine := rfl
@[simp] theorem State.produce_clearing (s : State) (c : ChanId) (b : Body) : (s.produce c b).clearing = s.clearing := rfl
@[simp] theorem State.produce_timeBase (s : State) (c : ChanId) (b : Body) : (s.produce c b).timeBase = s.timeBase := rfl
@[simp] theorem State.produce_upRx (s : State) (c : ChanId) (b : Body) : (s.produce c b).upRx = s.upRx := rfl
@[simp] theorem State.produce_dnRx (s : State) (c : ChanId) (b : Body) : (s.produce c b).dnRx = s.dnRx := rfl
@[simp] theorem State.produce_upTx (s : State) (c : ChanId) (b : Body) : (s.produce c b).upTx = s.upTx := rfl
@[simp] theorem State.produce_dnTx (s : State) (c : ChanId) (b : Body) : (s.produce c b).dnTx = s.dnTx := rfl
@[simp] theorem State.produce_relayDown (s : State) (c : ChanId) (b : Body) : (s.produce c b).relayDown = s.relayDown := rfl
@[simp] theorem State.produce_relayUp (s : State) (c : ChanId) (b : Body) : (s.produce c b).relayUp = s.relayUp := rfl
@[simp] theorem State.produce_link (s : State) (c : ChanId) (b : Body) : (s.produce c b).link = s.link := rfl
@[simp] theorem State.produce_relayWait (s : State) (c : ChanId) (b : Body) : (s.produce c b).relayWait = s.relayWait := rfl
@[simp] theorem State.produce_upServed (s : State) (c : ChanId) (b : Body) : (s.produce c b).upServed = s.upServed := rfl
@[simp] theorem State.produce_acceptTable (s : State) (c : ChanId) (b : Body) : (s.produce c b).acceptTable = s.acceptTable := rfl
@[simp] theorem State.produce_stepTable (s : State) (c : ChanId) (b : Body) : (s.produce c b).stepTable = s.stepTable := rfl
@[simp] theorem State.produce_programTable (s : State) (c : ChanId) (b : Body) : (s.produce c b).programTable = s.programTable := rfl
@[simp] theorem State.produce_segmentTable (s : State) (c : ChanId) (b : Body) : (s.produce c b).segmentTable = s.segmentTable := rfl
@[simp] theorem State.produce_profileTable (s : State) (c : ChanId) (b : Body) : (s.produce c b).profileTable = s.profileTable := rfl
@[simp] theorem State.produce_limitTable (s : State) (c : ChanId) (b : Body) : (s.produce c b).limitTable = s.limitTable := rfl
@[simp] theorem State.produce_configTable (s : State) (c : ChanId) (b : Body) : (s.produce c b).configTable = s.configTable := rfl
@[simp] theorem State.produce_requests (s : State) (c : ChanId) (b : Body) : (s.produce c b).requests = s.requests := rfl
@[simp] theorem State.produce_answers (s : State) (c : ChanId) (b : Body) : (s.produce c b).answers = s.answers := rfl
@[simp] theorem State.produce_job (s : State) (c : ChanId) (b : Body) : (s.produce c b).job = s.job := rfl
@[simp] theorem State.produce_resetPending (s : State) (c : ChanId) (b : Body) : (s.produce c b).resetPending = s.resetPending := rfl
@[simp] theorem State.produce_fetchQueue (s : State) (c : ChanId) (b : Body) : (s.produce c b).fetchQueue = s.fetchQueue := rfl
@[simp] theorem State.produce_port (s : State) (c : ChanId) (b : Body) : (s.produce c b).port = s.port := rfl
@[simp] theorem State.produce_portLast (s : State) (c : ChanId) (b : Body) : (s.produce c b).portLast = s.portLast := rfl
@[simp] theorem State.produce_readRaces (s : State) (c : ChanId) (b : Body) : (s.produce c b).readRaces = s.readRaces := rfl
@[simp] theorem State.produce_nextSince (s : State) (c : ChanId) (b : Body) : (s.produce c b).nextSince = s.nextSince := rfl
@[simp] theorem State.produce_channels (s : State) (c : ChanId) (b : Body) : (s.produce c b).channels = s.channels := rfl
@[simp] theorem State.produce_cfg (s : State) (c : ChanId) (b : Body) (x : ChanId) : (s.produce c b).cfg x = s.cfg x := rfl
@[simp] theorem State.produce_limits (s : State) (c : ChanId) (b : Body) (x : ChanId) : (s.produce c b).limits x = s.limits x := rfl
@[simp] theorem State.produce_programDesc (s : State) (c : ChanId) (b : Body) (x : Nat) : (s.produce c b).programDesc x = s.programDesc x := rfl
@[simp] theorem State.produce_segment (s : State) (c : ChanId) (b : Body) (x : Nat) : (s.produce c b).segment x = s.segment x := rfl
@[simp] theorem State.produce_profileDesc (s : State) (c : ChanId) (b : Body) (x : Nat) : (s.produce c b).profileDesc x = s.profileDesc x := rfl
@[simp] theorem State.produce_limitSet (s : State) (c : ChanId) (b : Body) (x : Nat) : (s.produce c b).limitSet x = s.limitSet x := rfl
@[simp] theorem State.produce_stepRec (s : State) (c : ChanId) (b : Body) (x : Nat) : (s.produce c b).stepRec x = s.stepRec x := rfl
@[simp] theorem State.produce_tickIn (s : State) (c : ChanId) (b : Body) (x : Nat) : (s.produce c b).tickIn x = s.tickIn x := rfl
@[simp] theorem State.produce_engineAddress (s : State) (c : ChanId) (b : Body) : (s.produce c b).engineAddress = s.engineAddress := rfl
@[simp] theorem State.produce_inReset (s : State) (c : ChanId) (b : Body) : (s.produce c b).inReset = s.inReset := rfl
@[simp] theorem State.produce_chan (s : State) (c : ChanId) (b : Body) (x : ChanId) : (s.produce c b).chan x = s.chan x := rfl

/-! ### State.faultRecord -/

@[simp] theorem State.faultRecord_pending (s : State) (c : ChanId) (e : FaultEntry) (a : FaultAction) : (s.faultRecord c e a).pending = s.pending := rfl
@[simp] theorem State.faultRecord_resetN (s : State) (c : ChanId) (e : FaultEntry) (a : FaultAction) : (s.faultRecord c e a).resetN = s.resetN := rfl
@[simp] theorem State.faultRecord_estopN (s : State) (c : ChanId) (e : FaultEntry) (a : FaultAction) : (s.faultRecord c e a).estopN = s.estopN := rfl
@[simp] theorem State.faultRecord_maint (s : State) (c : ChanId) (e : FaultEntry) (a : FaultAction) : (s.faultRecord c e a).maint = s.maint := rfl
@[simp] theorem State.faultRecord_addrStrap (s : State) (c : ChanId) (e : FaultEntry) (a : FaultAction) : (s.faultRecord c e a).addrStrap = s.addrStrap := rfl
@[simp] theorem State.faultRecord_rateStrap (s : State) (c : ChanId) (e : FaultEntry) (a : FaultAction) : (s.faultRecord c e a).rateStrap = s.rateStrap := rfl
@[simp] theorem State.faultRecord_engine (s : State) (c : ChanId) (e : FaultEntry) (a : FaultAction) : (s.faultRecord c e a).engine = s.engine := rfl
@[simp] theorem State.faultRecord_clearing (s : State) (c : ChanId) (e : FaultEntry) (a : FaultAction) : (s.faultRecord c e a).clearing = s.clearing := rfl
@[simp] theorem State.faultRecord_timeBase (s : State) (c : ChanId) (e : FaultEntry) (a : FaultAction) : (s.faultRecord c e a).timeBase = s.timeBase := rfl
@[simp] theorem State.faultRecord_upRx (s : State) (c : ChanId) (e : FaultEntry) (a : FaultAction) : (s.faultRecord c e a).upRx = s.upRx := rfl
@[simp] theorem State.faultRecord_dnRx (s : State) (c : ChanId) (e : FaultEntry) (a : FaultAction) : (s.faultRecord c e a).dnRx = s.dnRx := rfl
@[simp] theorem State.faultRecord_upTx (s : State) (c : ChanId) (e : FaultEntry) (a : FaultAction) : (s.faultRecord c e a).upTx = s.upTx := rfl
@[simp] theorem State.faultRecord_dnTx (s : State) (c : ChanId) (e : FaultEntry) (a : FaultAction) : (s.faultRecord c e a).dnTx = s.dnTx := rfl
@[simp] theorem State.faultRecord_relayDown (s : State) (c : ChanId) (e : FaultEntry) (a : FaultAction) : (s.faultRecord c e a).relayDown = s.relayDown := rfl
@[simp] theorem State.faultRecord_relayUp (s : State) (c : ChanId) (e : FaultEntry) (a : FaultAction) : (s.faultRecord c e a).relayUp = s.relayUp := rfl
@[simp] theorem State.faultRecord_link (s : State) (c : ChanId) (e : FaultEntry) (a : FaultAction) : (s.faultRecord c e a).link = s.link := rfl
@[simp] theorem State.faultRecord_relayWait (s : State) (c : ChanId) (e : FaultEntry) (a : FaultAction) : (s.faultRecord c e a).relayWait = s.relayWait := rfl
@[simp] theorem State.faultRecord_upServed (s : State) (c : ChanId) (e : FaultEntry) (a : FaultAction) : (s.faultRecord c e a).upServed = s.upServed := rfl
@[simp] theorem State.faultRecord_acceptTable (s : State) (c : ChanId) (e : FaultEntry) (a : FaultAction) : (s.faultRecord c e a).acceptTable = s.acceptTable := rfl
@[simp] theorem State.faultRecord_stepTable (s : State) (c : ChanId) (e : FaultEntry) (a : FaultAction) : (s.faultRecord c e a).stepTable = s.stepTable := rfl
@[simp] theorem State.faultRecord_programTable (s : State) (c : ChanId) (e : FaultEntry) (a : FaultAction) : (s.faultRecord c e a).programTable = s.programTable := rfl
@[simp] theorem State.faultRecord_segmentTable (s : State) (c : ChanId) (e : FaultEntry) (a : FaultAction) : (s.faultRecord c e a).segmentTable = s.segmentTable := rfl
@[simp] theorem State.faultRecord_profileTable (s : State) (c : ChanId) (e : FaultEntry) (a : FaultAction) : (s.faultRecord c e a).profileTable = s.profileTable := rfl
@[simp] theorem State.faultRecord_limitTable (s : State) (c : ChanId) (e : FaultEntry) (a : FaultAction) : (s.faultRecord c e a).limitTable = s.limitTable := rfl
@[simp] theorem State.faultRecord_configTable (s : State) (c : ChanId) (e : FaultEntry) (a : FaultAction) : (s.faultRecord c e a).configTable = s.configTable := rfl
@[simp] theorem State.faultRecord_requests (s : State) (c : ChanId) (e : FaultEntry) (a : FaultAction) : (s.faultRecord c e a).requests = s.requests := rfl
@[simp] theorem State.faultRecord_answers (s : State) (c : ChanId) (e : FaultEntry) (a : FaultAction) : (s.faultRecord c e a).answers = s.answers := rfl
@[simp] theorem State.faultRecord_job (s : State) (c : ChanId) (e : FaultEntry) (a : FaultAction) : (s.faultRecord c e a).job = s.job := rfl
@[simp] theorem State.faultRecord_resetPending (s : State) (c : ChanId) (e : FaultEntry) (a : FaultAction) : (s.faultRecord c e a).resetPending = s.resetPending := rfl
@[simp] theorem State.faultRecord_fetchQueue (s : State) (c : ChanId) (e : FaultEntry) (a : FaultAction) : (s.faultRecord c e a).fetchQueue = s.fetchQueue := rfl
@[simp] theorem State.faultRecord_port (s : State) (c : ChanId) (e : FaultEntry) (a : FaultAction) : (s.faultRecord c e a).port = s.port := rfl
@[simp] theorem State.faultRecord_portLast (s : State) (c : ChanId) (e : FaultEntry) (a : FaultAction) : (s.faultRecord c e a).portLast = s.portLast := rfl
@[simp] theorem State.faultRecord_readRaces (s : State) (c : ChanId) (e : FaultEntry) (a : FaultAction) : (s.faultRecord c e a).readRaces = s.readRaces := rfl
@[simp] theorem State.faultRecord_nextSince (s : State) (c : ChanId) (e : FaultEntry) (a : FaultAction) : (s.faultRecord c e a).nextSince = s.nextSince := rfl
@[simp] theorem State.faultRecord_channels (s : State) (c : ChanId) (e : FaultEntry) (a : FaultAction) : (s.faultRecord c e a).channels = s.channels := rfl
@[simp] theorem State.faultRecord_cfg (s : State) (c : ChanId) (e : FaultEntry) (a : FaultAction) (x : ChanId) : (s.faultRecord c e a).cfg x = s.cfg x := rfl
@[simp] theorem State.faultRecord_limits (s : State) (c : ChanId) (e : FaultEntry) (a : FaultAction) (x : ChanId) : (s.faultRecord c e a).limits x = s.limits x := rfl
@[simp] theorem State.faultRecord_programDesc (s : State) (c : ChanId) (e : FaultEntry) (a : FaultAction) (x : Nat) : (s.faultRecord c e a).programDesc x = s.programDesc x := rfl
@[simp] theorem State.faultRecord_segment (s : State) (c : ChanId) (e : FaultEntry) (a : FaultAction) (x : Nat) : (s.faultRecord c e a).segment x = s.segment x := rfl
@[simp] theorem State.faultRecord_profileDesc (s : State) (c : ChanId) (e : FaultEntry) (a : FaultAction) (x : Nat) : (s.faultRecord c e a).profileDesc x = s.profileDesc x := rfl
@[simp] theorem State.faultRecord_limitSet (s : State) (c : ChanId) (e : FaultEntry) (a : FaultAction) (x : Nat) : (s.faultRecord c e a).limitSet x = s.limitSet x := rfl
@[simp] theorem State.faultRecord_stepRec (s : State) (c : ChanId) (e : FaultEntry) (a : FaultAction) (x : Nat) : (s.faultRecord c e a).stepRec x = s.stepRec x := rfl
@[simp] theorem State.faultRecord_tickIn (s : State) (c : ChanId) (e : FaultEntry) (a : FaultAction) (x : Nat) : (s.faultRecord c e a).tickIn x = s.tickIn x := rfl
@[simp] theorem State.faultRecord_engineAddress (s : State) (c : ChanId) (e : FaultEntry) (a : FaultAction) : (s.faultRecord c e a).engineAddress = s.engineAddress := rfl
@[simp] theorem State.faultRecord_inReset (s : State) (c : ChanId) (e : FaultEntry) (a : FaultAction) : (s.faultRecord c e a).inReset = s.inReset := rfl
@[simp] theorem State.faultRecord_chan (s : State) (c : ChanId) (e : FaultEntry) (a : FaultAction) (x : ChanId) : (s.faultRecord c e a).chan x = s.chan x := rfl

/-! ### State.stateRecord -/

@[simp] theorem State.stateRecord_pending (s : State) (c : ChanId) (o : ChState) (r : Reason) : (s.stateRecord c o r).pending = s.pending := by unfold State.stateRecord; split <;> rfl
@[simp] theorem State.stateRecord_resetN (s : State) (c : ChanId) (o : ChState) (r : Reason) : (s.stateRecord c o r).resetN = s.resetN := by unfold State.stateRecord; split <;> rfl
@[simp] theorem State.stateRecord_estopN (s : State) (c : ChanId) (o : ChState) (r : Reason) : (s.stateRecord c o r).estopN = s.estopN := by unfold State.stateRecord; split <;> rfl
@[simp] theorem State.stateRecord_maint (s : State) (c : ChanId) (o : ChState) (r : Reason) : (s.stateRecord c o r).maint = s.maint := by unfold State.stateRecord; split <;> rfl
@[simp] theorem State.stateRecord_addrStrap (s : State) (c : ChanId) (o : ChState) (r : Reason) : (s.stateRecord c o r).addrStrap = s.addrStrap := by unfold State.stateRecord; split <;> rfl
@[simp] theorem State.stateRecord_rateStrap (s : State) (c : ChanId) (o : ChState) (r : Reason) : (s.stateRecord c o r).rateStrap = s.rateStrap := by unfold State.stateRecord; split <;> rfl
@[simp] theorem State.stateRecord_engine (s : State) (c : ChanId) (o : ChState) (r : Reason) : (s.stateRecord c o r).engine = s.engine := by unfold State.stateRecord; split <;> rfl
@[simp] theorem State.stateRecord_clearing (s : State) (c : ChanId) (o : ChState) (r : Reason) : (s.stateRecord c o r).clearing = s.clearing := by unfold State.stateRecord; split <;> rfl
@[simp] theorem State.stateRecord_timeBase (s : State) (c : ChanId) (o : ChState) (r : Reason) : (s.stateRecord c o r).timeBase = s.timeBase := by unfold State.stateRecord; split <;> rfl
@[simp] theorem State.stateRecord_upRx (s : State) (c : ChanId) (o : ChState) (r : Reason) : (s.stateRecord c o r).upRx = s.upRx := by unfold State.stateRecord; split <;> rfl
@[simp] theorem State.stateRecord_dnRx (s : State) (c : ChanId) (o : ChState) (r : Reason) : (s.stateRecord c o r).dnRx = s.dnRx := by unfold State.stateRecord; split <;> rfl
@[simp] theorem State.stateRecord_upTx (s : State) (c : ChanId) (o : ChState) (r : Reason) : (s.stateRecord c o r).upTx = s.upTx := by unfold State.stateRecord; split <;> rfl
@[simp] theorem State.stateRecord_dnTx (s : State) (c : ChanId) (o : ChState) (r : Reason) : (s.stateRecord c o r).dnTx = s.dnTx := by unfold State.stateRecord; split <;> rfl
@[simp] theorem State.stateRecord_relayDown (s : State) (c : ChanId) (o : ChState) (r : Reason) : (s.stateRecord c o r).relayDown = s.relayDown := by unfold State.stateRecord; split <;> rfl
@[simp] theorem State.stateRecord_relayUp (s : State) (c : ChanId) (o : ChState) (r : Reason) : (s.stateRecord c o r).relayUp = s.relayUp := by unfold State.stateRecord; split <;> rfl
@[simp] theorem State.stateRecord_link (s : State) (c : ChanId) (o : ChState) (r : Reason) : (s.stateRecord c o r).link = s.link := by unfold State.stateRecord; split <;> rfl
@[simp] theorem State.stateRecord_relayWait (s : State) (c : ChanId) (o : ChState) (r : Reason) : (s.stateRecord c o r).relayWait = s.relayWait := by unfold State.stateRecord; split <;> rfl
@[simp] theorem State.stateRecord_upServed (s : State) (c : ChanId) (o : ChState) (r : Reason) : (s.stateRecord c o r).upServed = s.upServed := by unfold State.stateRecord; split <;> rfl
@[simp] theorem State.stateRecord_acceptTable (s : State) (c : ChanId) (o : ChState) (r : Reason) : (s.stateRecord c o r).acceptTable = s.acceptTable := by unfold State.stateRecord; split <;> rfl
@[simp] theorem State.stateRecord_stepTable (s : State) (c : ChanId) (o : ChState) (r : Reason) : (s.stateRecord c o r).stepTable = s.stepTable := by unfold State.stateRecord; split <;> rfl
@[simp] theorem State.stateRecord_programTable (s : State) (c : ChanId) (o : ChState) (r : Reason) : (s.stateRecord c o r).programTable = s.programTable := by unfold State.stateRecord; split <;> rfl
@[simp] theorem State.stateRecord_segmentTable (s : State) (c : ChanId) (o : ChState) (r : Reason) : (s.stateRecord c o r).segmentTable = s.segmentTable := by unfold State.stateRecord; split <;> rfl
@[simp] theorem State.stateRecord_profileTable (s : State) (c : ChanId) (o : ChState) (r : Reason) : (s.stateRecord c o r).profileTable = s.profileTable := by unfold State.stateRecord; split <;> rfl
@[simp] theorem State.stateRecord_limitTable (s : State) (c : ChanId) (o : ChState) (r : Reason) : (s.stateRecord c o r).limitTable = s.limitTable := by unfold State.stateRecord; split <;> rfl
@[simp] theorem State.stateRecord_configTable (s : State) (c : ChanId) (o : ChState) (r : Reason) : (s.stateRecord c o r).configTable = s.configTable := by unfold State.stateRecord; split <;> rfl
@[simp] theorem State.stateRecord_requests (s : State) (c : ChanId) (o : ChState) (r : Reason) : (s.stateRecord c o r).requests = s.requests := by unfold State.stateRecord; split <;> rfl
@[simp] theorem State.stateRecord_answers (s : State) (c : ChanId) (o : ChState) (r : Reason) : (s.stateRecord c o r).answers = s.answers := by unfold State.stateRecord; split <;> rfl
@[simp] theorem State.stateRecord_job (s : State) (c : ChanId) (o : ChState) (r : Reason) : (s.stateRecord c o r).job = s.job := by unfold State.stateRecord; split <;> rfl
@[simp] theorem State.stateRecord_resetPending (s : State) (c : ChanId) (o : ChState) (r : Reason) : (s.stateRecord c o r).resetPending = s.resetPending := by unfold State.stateRecord; split <;> rfl
@[simp] theorem State.stateRecord_fetchQueue (s : State) (c : ChanId) (o : ChState) (r : Reason) : (s.stateRecord c o r).fetchQueue = s.fetchQueue := by unfold State.stateRecord; split <;> rfl
@[simp] theorem State.stateRecord_port (s : State) (c : ChanId) (o : ChState) (r : Reason) : (s.stateRecord c o r).port = s.port := by unfold State.stateRecord; split <;> rfl
@[simp] theorem State.stateRecord_portLast (s : State) (c : ChanId) (o : ChState) (r : Reason) : (s.stateRecord c o r).portLast = s.portLast := by unfold State.stateRecord; split <;> rfl
@[simp] theorem State.stateRecord_readRaces (s : State) (c : ChanId) (o : ChState) (r : Reason) : (s.stateRecord c o r).readRaces = s.readRaces := by unfold State.stateRecord; split <;> rfl
@[simp] theorem State.stateRecord_nextSince (s : State) (c : ChanId) (o : ChState) (r : Reason) : (s.stateRecord c o r).nextSince = s.nextSince := by unfold State.stateRecord; split <;> rfl
@[simp] theorem State.stateRecord_channels (s : State) (c : ChanId) (o : ChState) (r : Reason) : (s.stateRecord c o r).channels = s.channels := by unfold State.stateRecord; split <;> rfl
@[simp] theorem State.stateRecord_cfg (s : State) (c : ChanId) (o : ChState) (r : Reason) (x : ChanId) : (s.stateRecord c o r).cfg x = s.cfg x := by unfold State.stateRecord; split <;> rfl
@[simp] theorem State.stateRecord_limits (s : State) (c : ChanId) (o : ChState) (r : Reason) (x : ChanId) : (s.stateRecord c o r).limits x = s.limits x := by unfold State.stateRecord; split <;> rfl
@[simp] theorem State.stateRecord_programDesc (s : State) (c : ChanId) (o : ChState) (r : Reason) (x : Nat) : (s.stateRecord c o r).programDesc x = s.programDesc x := by unfold State.stateRecord; split <;> rfl
@[simp] theorem State.stateRecord_segment (s : State) (c : ChanId) (o : ChState) (r : Reason) (x : Nat) : (s.stateRecord c o r).segment x = s.segment x := by unfold State.stateRecord; split <;> rfl
@[simp] theorem State.stateRecord_profileDesc (s : State) (c : ChanId) (o : ChState) (r : Reason) (x : Nat) : (s.stateRecord c o r).profileDesc x = s.profileDesc x := by unfold State.stateRecord; split <;> rfl
@[simp] theorem State.stateRecord_limitSet (s : State) (c : ChanId) (o : ChState) (r : Reason) (x : Nat) : (s.stateRecord c o r).limitSet x = s.limitSet x := by unfold State.stateRecord; split <;> rfl
@[simp] theorem State.stateRecord_stepRec (s : State) (c : ChanId) (o : ChState) (r : Reason) (x : Nat) : (s.stateRecord c o r).stepRec x = s.stepRec x := by unfold State.stateRecord; split <;> rfl
@[simp] theorem State.stateRecord_tickIn (s : State) (c : ChanId) (o : ChState) (r : Reason) (x : Nat) : (s.stateRecord c o r).tickIn x = s.tickIn x := by unfold State.stateRecord; split <;> rfl
@[simp] theorem State.stateRecord_engineAddress (s : State) (c : ChanId) (o : ChState) (r : Reason) : (s.stateRecord c o r).engineAddress = s.engineAddress := by unfold State.stateRecord; split <;> rfl
@[simp] theorem State.stateRecord_inReset (s : State) (c : ChanId) (o : ChState) (r : Reason) : (s.stateRecord c o r).inReset = s.inReset := by unfold State.stateRecord; split <;> rfl
@[simp] theorem State.stateRecord_chan (s : State) (c : ChanId) (o : ChState) (r : Reason) (x : ChanId) : (s.stateRecord c o r).chan x = s.chan x := by unfold State.stateRecord; split <;> rfl

/-! ### State.changeState -/

@[simp] theorem State.changeState_pending (s : State) (c : ChanId) (n : ChState) (r : Reason) : (s.changeState c n r).pending = s.pending := by unfold State.changeState; simp
@[simp] theorem State.changeState_resetN (s : State) (c : ChanId) (n : ChState) (r : Reason) : (s.changeState c n r).resetN = s.resetN := by unfold State.changeState; simp
@[simp] theorem State.changeState_estopN (s : State) (c : ChanId) (n : ChState) (r : Reason) : (s.changeState c n r).estopN = s.estopN := by unfold State.changeState; simp
@[simp] theorem State.changeState_maint (s : State) (c : ChanId) (n : ChState) (r : Reason) : (s.changeState c n r).maint = s.maint := by unfold State.changeState; simp
@[simp] theorem State.changeState_addrStrap (s : State) (c : ChanId) (n : ChState) (r : Reason) : (s.changeState c n r).addrStrap = s.addrStrap := by unfold State.changeState; simp
@[simp] theorem State.changeState_rateStrap (s : State) (c : ChanId) (n : ChState) (r : Reason) : (s.changeState c n r).rateStrap = s.rateStrap := by unfold State.changeState; simp
@[simp] theorem State.changeState_engine (s : State) (c : ChanId) (n : ChState) (r : Reason) : (s.changeState c n r).engine = s.engine := by unfold State.changeState; simp
@[simp] theorem State.changeState_clearing (s : State) (c : ChanId) (n : ChState) (r : Reason) : (s.changeState c n r).clearing = s.clearing := by unfold State.changeState; simp
@[simp] theorem State.changeState_timeBase (s : State) (c : ChanId) (n : ChState) (r : Reason) : (s.changeState c n r).timeBase = s.timeBase := by unfold State.changeState; simp
@[simp] theorem State.changeState_upRx (s : State) (c : ChanId) (n : ChState) (r : Reason) : (s.changeState c n r).upRx = s.upRx := by unfold State.changeState; simp
@[simp] theorem State.changeState_dnRx (s : State) (c : ChanId) (n : ChState) (r : Reason) : (s.changeState c n r).dnRx = s.dnRx := by unfold State.changeState; simp
@[simp] theorem State.changeState_upTx (s : State) (c : ChanId) (n : ChState) (r : Reason) : (s.changeState c n r).upTx = s.upTx := by unfold State.changeState; simp
@[simp] theorem State.changeState_dnTx (s : State) (c : ChanId) (n : ChState) (r : Reason) : (s.changeState c n r).dnTx = s.dnTx := by unfold State.changeState; simp
@[simp] theorem State.changeState_relayDown (s : State) (c : ChanId) (n : ChState) (r : Reason) : (s.changeState c n r).relayDown = s.relayDown := by unfold State.changeState; simp
@[simp] theorem State.changeState_relayUp (s : State) (c : ChanId) (n : ChState) (r : Reason) : (s.changeState c n r).relayUp = s.relayUp := by unfold State.changeState; simp
@[simp] theorem State.changeState_link (s : State) (c : ChanId) (n : ChState) (r : Reason) : (s.changeState c n r).link = s.link := by unfold State.changeState; simp
@[simp] theorem State.changeState_relayWait (s : State) (c : ChanId) (n : ChState) (r : Reason) : (s.changeState c n r).relayWait = s.relayWait := by unfold State.changeState; simp
@[simp] theorem State.changeState_upServed (s : State) (c : ChanId) (n : ChState) (r : Reason) : (s.changeState c n r).upServed = s.upServed := by unfold State.changeState; simp
@[simp] theorem State.changeState_acceptTable (s : State) (c : ChanId) (n : ChState) (r : Reason) : (s.changeState c n r).acceptTable = s.acceptTable := by unfold State.changeState; simp
@[simp] theorem State.changeState_stepTable (s : State) (c : ChanId) (n : ChState) (r : Reason) : (s.changeState c n r).stepTable = s.stepTable := by unfold State.changeState; simp
@[simp] theorem State.changeState_programTable (s : State) (c : ChanId) (n : ChState) (r : Reason) : (s.changeState c n r).programTable = s.programTable := by unfold State.changeState; simp
@[simp] theorem State.changeState_segmentTable (s : State) (c : ChanId) (n : ChState) (r : Reason) : (s.changeState c n r).segmentTable = s.segmentTable := by unfold State.changeState; simp
@[simp] theorem State.changeState_profileTable (s : State) (c : ChanId) (n : ChState) (r : Reason) : (s.changeState c n r).profileTable = s.profileTable := by unfold State.changeState; simp
@[simp] theorem State.changeState_limitTable (s : State) (c : ChanId) (n : ChState) (r : Reason) : (s.changeState c n r).limitTable = s.limitTable := by unfold State.changeState; simp
@[simp] theorem State.changeState_configTable (s : State) (c : ChanId) (n : ChState) (r : Reason) : (s.changeState c n r).configTable = s.configTable := by unfold State.changeState; simp
@[simp] theorem State.changeState_requests (s : State) (c : ChanId) (n : ChState) (r : Reason) : (s.changeState c n r).requests = s.requests := by unfold State.changeState; simp
@[simp] theorem State.changeState_answers (s : State) (c : ChanId) (n : ChState) (r : Reason) : (s.changeState c n r).answers = s.answers := by unfold State.changeState; simp
@[simp] theorem State.changeState_job (s : State) (c : ChanId) (n : ChState) (r : Reason) : (s.changeState c n r).job = s.job := by unfold State.changeState; simp
@[simp] theorem State.changeState_resetPending (s : State) (c : ChanId) (n : ChState) (r : Reason) : (s.changeState c n r).resetPending = s.resetPending := by unfold State.changeState; simp
@[simp] theorem State.changeState_fetchQueue (s : State) (c : ChanId) (n : ChState) (r : Reason) : (s.changeState c n r).fetchQueue = s.fetchQueue := by unfold State.changeState; simp
@[simp] theorem State.changeState_port (s : State) (c : ChanId) (n : ChState) (r : Reason) : (s.changeState c n r).port = s.port := by unfold State.changeState; simp
@[simp] theorem State.changeState_portLast (s : State) (c : ChanId) (n : ChState) (r : Reason) : (s.changeState c n r).portLast = s.portLast := by unfold State.changeState; simp
@[simp] theorem State.changeState_readRaces (s : State) (c : ChanId) (n : ChState) (r : Reason) : (s.changeState c n r).readRaces = s.readRaces := by unfold State.changeState; simp
@[simp] theorem State.changeState_nextSince (s : State) (c : ChanId) (n : ChState) (r : Reason) : (s.changeState c n r).nextSince = s.nextSince := by unfold State.changeState; simp
@[simp] theorem State.changeState_cfg (s : State) (c : ChanId) (n : ChState) (r : Reason) (x : ChanId) : (s.changeState c n r).cfg x = s.cfg x := by unfold State.changeState; simp
@[simp] theorem State.changeState_limits (s : State) (c : ChanId) (n : ChState) (r : Reason) (x : ChanId) : (s.changeState c n r).limits x = s.limits x := by unfold State.changeState; simp
@[simp] theorem State.changeState_programDesc (s : State) (c : ChanId) (n : ChState) (r : Reason) (x : Nat) : (s.changeState c n r).programDesc x = s.programDesc x := by unfold State.changeState; simp
@[simp] theorem State.changeState_segment (s : State) (c : ChanId) (n : ChState) (r : Reason) (x : Nat) : (s.changeState c n r).segment x = s.segment x := by unfold State.changeState; simp
@[simp] theorem State.changeState_profileDesc (s : State) (c : ChanId) (n : ChState) (r : Reason) (x : Nat) : (s.changeState c n r).profileDesc x = s.profileDesc x := by unfold State.changeState; simp
@[simp] theorem State.changeState_limitSet (s : State) (c : ChanId) (n : ChState) (r : Reason) (x : Nat) : (s.changeState c n r).limitSet x = s.limitSet x := by unfold State.changeState; simp
@[simp] theorem State.changeState_stepRec (s : State) (c : ChanId) (n : ChState) (r : Reason) (x : Nat) : (s.changeState c n r).stepRec x = s.stepRec x := by unfold State.changeState; simp
@[simp] theorem State.changeState_tickIn (s : State) (c : ChanId) (n : ChState) (r : Reason) (x : Nat) : (s.changeState c n r).tickIn x = s.tickIn x := by unfold State.changeState; simp
@[simp] theorem State.changeState_engineAddress (s : State) (c : ChanId) (n : ChState) (r : Reason) : (s.changeState c n r).engineAddress = s.engineAddress := by unfold State.changeState; simp
@[simp] theorem State.changeState_inReset (s : State) (c : ChanId) (n : ChState) (r : Reason) : (s.changeState c n r).inReset = s.inReset := by unfold State.changeState; simp

/-! ### State.offerFrame -/

@[simp] theorem State.offerFrame_pending (s : State) (c : ChanId) (k : SpCommand) (i : Int) (m : Bool) : (s.offerFrame c k i m).pending = s.pending := by unfold State.offerFrame; split <;> rfl
@[simp] theorem State.offerFrame_resetN (s : State) (c : ChanId) (k : SpCommand) (i : Int) (m : Bool) : (s.offerFrame c k i m).resetN = s.resetN := by unfold State.offerFrame; split <;> rfl
@[simp] theorem State.offerFrame_estopN (s : State) (c : ChanId) (k : SpCommand) (i : Int) (m : Bool) : (s.offerFrame c k i m).estopN = s.estopN := by unfold State.offerFrame; split <;> rfl
@[simp] theorem State.offerFrame_maint (s : State) (c : ChanId) (k : SpCommand) (i : Int) (m : Bool) : (s.offerFrame c k i m).maint = s.maint := by unfold State.offerFrame; split <;> rfl
@[simp] theorem State.offerFrame_addrStrap (s : State) (c : ChanId) (k : SpCommand) (i : Int) (m : Bool) : (s.offerFrame c k i m).addrStrap = s.addrStrap := by unfold State.offerFrame; split <;> rfl
@[simp] theorem State.offerFrame_rateStrap (s : State) (c : ChanId) (k : SpCommand) (i : Int) (m : Bool) : (s.offerFrame c k i m).rateStrap = s.rateStrap := by unfold State.offerFrame; split <;> rfl
@[simp] theorem State.offerFrame_engine (s : State) (c : ChanId) (k : SpCommand) (i : Int) (m : Bool) : (s.offerFrame c k i m).engine = s.engine := by unfold State.offerFrame; split <;> rfl
@[simp] theorem State.offerFrame_clearing (s : State) (c : ChanId) (k : SpCommand) (i : Int) (m : Bool) : (s.offerFrame c k i m).clearing = s.clearing := by unfold State.offerFrame; split <;> rfl
@[simp] theorem State.offerFrame_timeBase (s : State) (c : ChanId) (k : SpCommand) (i : Int) (m : Bool) : (s.offerFrame c k i m).timeBase = s.timeBase := by unfold State.offerFrame; split <;> rfl
@[simp] theorem State.offerFrame_upRx (s : State) (c : ChanId) (k : SpCommand) (i : Int) (m : Bool) : (s.offerFrame c k i m).upRx = s.upRx := by unfold State.offerFrame; split <;> rfl
@[simp] theorem State.offerFrame_dnRx (s : State) (c : ChanId) (k : SpCommand) (i : Int) (m : Bool) : (s.offerFrame c k i m).dnRx = s.dnRx := by unfold State.offerFrame; split <;> rfl
@[simp] theorem State.offerFrame_upTx (s : State) (c : ChanId) (k : SpCommand) (i : Int) (m : Bool) : (s.offerFrame c k i m).upTx = s.upTx := by unfold State.offerFrame; split <;> rfl
@[simp] theorem State.offerFrame_dnTx (s : State) (c : ChanId) (k : SpCommand) (i : Int) (m : Bool) : (s.offerFrame c k i m).dnTx = s.dnTx := by unfold State.offerFrame; split <;> rfl
@[simp] theorem State.offerFrame_relayDown (s : State) (c : ChanId) (k : SpCommand) (i : Int) (m : Bool) : (s.offerFrame c k i m).relayDown = s.relayDown := by unfold State.offerFrame; split <;> rfl
@[simp] theorem State.offerFrame_relayUp (s : State) (c : ChanId) (k : SpCommand) (i : Int) (m : Bool) : (s.offerFrame c k i m).relayUp = s.relayUp := by unfold State.offerFrame; split <;> rfl
@[simp] theorem State.offerFrame_link (s : State) (c : ChanId) (k : SpCommand) (i : Int) (m : Bool) : (s.offerFrame c k i m).link = s.link := by unfold State.offerFrame; split <;> rfl
@[simp] theorem State.offerFrame_relayWait (s : State) (c : ChanId) (k : SpCommand) (i : Int) (m : Bool) : (s.offerFrame c k i m).relayWait = s.relayWait := by unfold State.offerFrame; split <;> rfl
@[simp] theorem State.offerFrame_upServed (s : State) (c : ChanId) (k : SpCommand) (i : Int) (m : Bool) : (s.offerFrame c k i m).upServed = s.upServed := by unfold State.offerFrame; split <;> rfl
@[simp] theorem State.offerFrame_acceptTable (s : State) (c : ChanId) (k : SpCommand) (i : Int) (m : Bool) : (s.offerFrame c k i m).acceptTable = s.acceptTable := by unfold State.offerFrame; split <;> rfl
@[simp] theorem State.offerFrame_stepTable (s : State) (c : ChanId) (k : SpCommand) (i : Int) (m : Bool) : (s.offerFrame c k i m).stepTable = s.stepTable := by unfold State.offerFrame; split <;> rfl
@[simp] theorem State.offerFrame_programTable (s : State) (c : ChanId) (k : SpCommand) (i : Int) (m : Bool) : (s.offerFrame c k i m).programTable = s.programTable := by unfold State.offerFrame; split <;> rfl
@[simp] theorem State.offerFrame_segmentTable (s : State) (c : ChanId) (k : SpCommand) (i : Int) (m : Bool) : (s.offerFrame c k i m).segmentTable = s.segmentTable := by unfold State.offerFrame; split <;> rfl
@[simp] theorem State.offerFrame_profileTable (s : State) (c : ChanId) (k : SpCommand) (i : Int) (m : Bool) : (s.offerFrame c k i m).profileTable = s.profileTable := by unfold State.offerFrame; split <;> rfl
@[simp] theorem State.offerFrame_limitTable (s : State) (c : ChanId) (k : SpCommand) (i : Int) (m : Bool) : (s.offerFrame c k i m).limitTable = s.limitTable := by unfold State.offerFrame; split <;> rfl
@[simp] theorem State.offerFrame_configTable (s : State) (c : ChanId) (k : SpCommand) (i : Int) (m : Bool) : (s.offerFrame c k i m).configTable = s.configTable := by unfold State.offerFrame; split <;> rfl
@[simp] theorem State.offerFrame_requests (s : State) (c : ChanId) (k : SpCommand) (i : Int) (m : Bool) : (s.offerFrame c k i m).requests = s.requests := by unfold State.offerFrame; split <;> rfl
@[simp] theorem State.offerFrame_answers (s : State) (c : ChanId) (k : SpCommand) (i : Int) (m : Bool) : (s.offerFrame c k i m).answers = s.answers := by unfold State.offerFrame; split <;> rfl
@[simp] theorem State.offerFrame_job (s : State) (c : ChanId) (k : SpCommand) (i : Int) (m : Bool) : (s.offerFrame c k i m).job = s.job := by unfold State.offerFrame; split <;> rfl
@[simp] theorem State.offerFrame_resetPending (s : State) (c : ChanId) (k : SpCommand) (i : Int) (m : Bool) : (s.offerFrame c k i m).resetPending = s.resetPending := by unfold State.offerFrame; split <;> rfl
@[simp] theorem State.offerFrame_reports (s : State) (c : ChanId) (k : SpCommand) (i : Int) (m : Bool) : (s.offerFrame c k i m).reports = s.reports := by unfold State.offerFrame; split <;> rfl
@[simp] theorem State.offerFrame_dropCount (s : State) (c : ChanId) (k : SpCommand) (i : Int) (m : Bool) : (s.offerFrame c k i m).dropCount = s.dropCount := by unfold State.offerFrame; split <;> rfl
@[simp] theorem State.offerFrame_fetchQueue (s : State) (c : ChanId) (k : SpCommand) (i : Int) (m : Bool) : (s.offerFrame c k i m).fetchQueue = s.fetchQueue := by unfold State.offerFrame; split <;> rfl
@[simp] theorem State.offerFrame_port (s : State) (c : ChanId) (k : SpCommand) (i : Int) (m : Bool) : (s.offerFrame c k i m).port = s.port := by unfold State.offerFrame; split <;> rfl
@[simp] theorem State.offerFrame_portLast (s : State) (c : ChanId) (k : SpCommand) (i : Int) (m : Bool) : (s.offerFrame c k i m).portLast = s.portLast := by unfold State.offerFrame; split <;> rfl
@[simp] theorem State.offerFrame_readRaces (s : State) (c : ChanId) (k : SpCommand) (i : Int) (m : Bool) : (s.offerFrame c k i m).readRaces = s.readRaces := by unfold State.offerFrame; split <;> rfl
@[simp] theorem State.offerFrame_cfg (s : State) (c : ChanId) (k : SpCommand) (i : Int) (m : Bool) (x : ChanId) : (s.offerFrame c k i m).cfg x = s.cfg x := by unfold State.offerFrame; split <;> rfl
@[simp] theorem State.offerFrame_limits (s : State) (c : ChanId) (k : SpCommand) (i : Int) (m : Bool) (x : ChanId) : (s.offerFrame c k i m).limits x = s.limits x := by unfold State.offerFrame; split <;> rfl
@[simp] theorem State.offerFrame_programDesc (s : State) (c : ChanId) (k : SpCommand) (i : Int) (m : Bool) (x : Nat) : (s.offerFrame c k i m).programDesc x = s.programDesc x := by unfold State.offerFrame; split <;> rfl
@[simp] theorem State.offerFrame_segment (s : State) (c : ChanId) (k : SpCommand) (i : Int) (m : Bool) (x : Nat) : (s.offerFrame c k i m).segment x = s.segment x := by unfold State.offerFrame; split <;> rfl
@[simp] theorem State.offerFrame_profileDesc (s : State) (c : ChanId) (k : SpCommand) (i : Int) (m : Bool) (x : Nat) : (s.offerFrame c k i m).profileDesc x = s.profileDesc x := by unfold State.offerFrame; split <;> rfl
@[simp] theorem State.offerFrame_limitSet (s : State) (c : ChanId) (k : SpCommand) (i : Int) (m : Bool) (x : Nat) : (s.offerFrame c k i m).limitSet x = s.limitSet x := by unfold State.offerFrame; split <;> rfl
@[simp] theorem State.offerFrame_stepRec (s : State) (c : ChanId) (k : SpCommand) (i : Int) (m : Bool) (x : Nat) : (s.offerFrame c k i m).stepRec x = s.stepRec x := by unfold State.offerFrame; split <;> rfl
@[simp] theorem State.offerFrame_tickIn (s : State) (c : ChanId) (k : SpCommand) (i : Int) (m : Bool) (x : Nat) : (s.offerFrame c k i m).tickIn x = s.tickIn x := by unfold State.offerFrame; split <;> rfl
@[simp] theorem State.offerFrame_engineAddress (s : State) (c : ChanId) (k : SpCommand) (i : Int) (m : Bool) : (s.offerFrame c k i m).engineAddress = s.engineAddress := by unfold State.offerFrame; split <;> rfl
@[simp] theorem State.offerFrame_inReset (s : State) (c : ChanId) (k : SpCommand) (i : Int) (m : Bool) : (s.offerFrame c k i m).inReset = s.inReset := by unfold State.offerFrame; split <;> rfl

/-! ### State.offerZero -/

@[simp] theorem State.offerZero_pending (s : State) (c : ChanId) : (s.offerZero c).pending = s.pending := by unfold State.offerZero; simp
@[simp] theorem State.offerZero_resetN (s : State) (c : ChanId) : (s.offerZero c).resetN = s.resetN := by unfold State.offerZero; simp
@[simp] theorem State.offerZero_estopN (s : State) (c : ChanId) : (s.offerZero c).estopN = s.estopN := by unfold State.offerZero; simp
@[simp] theorem State.offerZero_maint (s : State) (c : ChanId) : (s.offerZero c).maint = s.maint := by unfold State.offerZero; simp
@[simp] theorem State.offerZero_addrStrap (s : State) (c : ChanId) : (s.offerZero c).addrStrap = s.addrStrap := by unfold State.offerZero; simp
@[simp] theorem State.offerZero_rateStrap (s : State) (c : ChanId) : (s.offerZero c).rateStrap = s.rateStrap := by unfold State.offerZero; simp
@[simp] theorem State.offerZero_engine (s : State) (c : ChanId) : (s.offerZero c).engine = s.engine := by unfold State.offerZero; simp
@[simp] theorem State.offerZero_clearing (s : State) (c : ChanId) : (s.offerZero c).clearing = s.clearing := by unfold State.offerZero; simp
@[simp] theorem State.offerZero_timeBase (s : State) (c : ChanId) : (s.offerZero c).timeBase = s.timeBase := by unfold State.offerZero; simp
@[simp] theorem State.offerZero_upRx (s : State) (c : ChanId) : (s.offerZero c).upRx = s.upRx := by unfold State.offerZero; simp
@[simp] theorem State.offerZero_dnRx (s : State) (c : ChanId) : (s.offerZero c).dnRx = s.dnRx := by unfold State.offerZero; simp
@[simp] theorem State.offerZero_upTx (s : State) (c : ChanId) : (s.offerZero c).upTx = s.upTx := by unfold State.offerZero; simp
@[simp] theorem State.offerZero_dnTx (s : State) (c : ChanId) : (s.offerZero c).dnTx = s.dnTx := by unfold State.offerZero; simp
@[simp] theorem State.offerZero_relayDown (s : State) (c : ChanId) : (s.offerZero c).relayDown = s.relayDown := by unfold State.offerZero; simp
@[simp] theorem State.offerZero_relayUp (s : State) (c : ChanId) : (s.offerZero c).relayUp = s.relayUp := by unfold State.offerZero; simp
@[simp] theorem State.offerZero_link (s : State) (c : ChanId) : (s.offerZero c).link = s.link := by unfold State.offerZero; simp
@[simp] theorem State.offerZero_relayWait (s : State) (c : ChanId) : (s.offerZero c).relayWait = s.relayWait := by unfold State.offerZero; simp
@[simp] theorem State.offerZero_upServed (s : State) (c : ChanId) : (s.offerZero c).upServed = s.upServed := by unfold State.offerZero; simp
@[simp] theorem State.offerZero_acceptTable (s : State) (c : ChanId) : (s.offerZero c).acceptTable = s.acceptTable := by unfold State.offerZero; simp
@[simp] theorem State.offerZero_stepTable (s : State) (c : ChanId) : (s.offerZero c).stepTable = s.stepTable := by unfold State.offerZero; simp
@[simp] theorem State.offerZero_programTable (s : State) (c : ChanId) : (s.offerZero c).programTable = s.programTable := by unfold State.offerZero; simp
@[simp] theorem State.offerZero_segmentTable (s : State) (c : ChanId) : (s.offerZero c).segmentTable = s.segmentTable := by unfold State.offerZero; simp
@[simp] theorem State.offerZero_profileTable (s : State) (c : ChanId) : (s.offerZero c).profileTable = s.profileTable := by unfold State.offerZero; simp
@[simp] theorem State.offerZero_limitTable (s : State) (c : ChanId) : (s.offerZero c).limitTable = s.limitTable := by unfold State.offerZero; simp
@[simp] theorem State.offerZero_configTable (s : State) (c : ChanId) : (s.offerZero c).configTable = s.configTable := by unfold State.offerZero; simp
@[simp] theorem State.offerZero_requests (s : State) (c : ChanId) : (s.offerZero c).requests = s.requests := by unfold State.offerZero; simp
@[simp] theorem State.offerZero_answers (s : State) (c : ChanId) : (s.offerZero c).answers = s.answers := by unfold State.offerZero; simp
@[simp] theorem State.offerZero_job (s : State) (c : ChanId) : (s.offerZero c).job = s.job := by unfold State.offerZero; simp
@[simp] theorem State.offerZero_resetPending (s : State) (c : ChanId) : (s.offerZero c).resetPending = s.resetPending := by unfold State.offerZero; simp
@[simp] theorem State.offerZero_reports (s : State) (c : ChanId) : (s.offerZero c).reports = s.reports := by unfold State.offerZero; simp
@[simp] theorem State.offerZero_dropCount (s : State) (c : ChanId) : (s.offerZero c).dropCount = s.dropCount := by unfold State.offerZero; simp
@[simp] theorem State.offerZero_fetchQueue (s : State) (c : ChanId) : (s.offerZero c).fetchQueue = s.fetchQueue := by unfold State.offerZero; simp
@[simp] theorem State.offerZero_port (s : State) (c : ChanId) : (s.offerZero c).port = s.port := by unfold State.offerZero; simp
@[simp] theorem State.offerZero_portLast (s : State) (c : ChanId) : (s.offerZero c).portLast = s.portLast := by unfold State.offerZero; simp
@[simp] theorem State.offerZero_readRaces (s : State) (c : ChanId) : (s.offerZero c).readRaces = s.readRaces := by unfold State.offerZero; simp
@[simp] theorem State.offerZero_cfg (s : State) (c : ChanId) (x : ChanId) : (s.offerZero c).cfg x = s.cfg x := by unfold State.offerZero; simp
@[simp] theorem State.offerZero_limits (s : State) (c : ChanId) (x : ChanId) : (s.offerZero c).limits x = s.limits x := by unfold State.offerZero; simp
@[simp] theorem State.offerZero_programDesc (s : State) (c : ChanId) (x : Nat) : (s.offerZero c).programDesc x = s.programDesc x := by unfold State.offerZero; simp
@[simp] theorem State.offerZero_segment (s : State) (c : ChanId) (x : Nat) : (s.offerZero c).segment x = s.segment x := by unfold State.offerZero; simp
@[simp] theorem State.offerZero_profileDesc (s : State) (c : ChanId) (x : Nat) : (s.offerZero c).profileDesc x = s.profileDesc x := by unfold State.offerZero; simp
@[simp] theorem State.offerZero_limitSet (s : State) (c : ChanId) (x : Nat) : (s.offerZero c).limitSet x = s.limitSet x := by unfold State.offerZero; simp
@[simp] theorem State.offerZero_stepRec (s : State) (c : ChanId) (x : Nat) : (s.offerZero c).stepRec x = s.stepRec x := by unfold State.offerZero; simp
@[simp] theorem State.offerZero_tickIn (s : State) (c : ChanId) (x : Nat) : (s.offerZero c).tickIn x = s.tickIn x := by unfold State.offerZero; simp
@[simp] theorem State.offerZero_engineAddress (s : State) (c : ChanId) : (s.offerZero c).engineAddress = s.engineAddress := by unfold State.offerZero; simp
@[simp] theorem State.offerZero_inReset (s : State) (c : ChanId) : (s.offerZero c).inReset = s.inReset := by unfold State.offerZero; simp

/-! ### State.offerOpen -/

@[simp] theorem State.offerOpen_pending (s : State) (c : ChanId) : (s.offerOpen c).pending = s.pending := by unfold State.offerOpen; simp
@[simp] theorem State.offerOpen_resetN (s : State) (c : ChanId) : (s.offerOpen c).resetN = s.resetN := by unfold State.offerOpen; simp
@[simp] theorem State.offerOpen_estopN (s : State) (c : ChanId) : (s.offerOpen c).estopN = s.estopN := by unfold State.offerOpen; simp
@[simp] theorem State.offerOpen_maint (s : State) (c : ChanId) : (s.offerOpen c).maint = s.maint := by unfold State.offerOpen; simp
@[simp] theorem State.offerOpen_addrStrap (s : State) (c : ChanId) : (s.offerOpen c).addrStrap = s.addrStrap := by unfold State.offerOpen; simp
@[simp] theorem State.offerOpen_rateStrap (s : State) (c : ChanId) : (s.offerOpen c).rateStrap = s.rateStrap := by unfold State.offerOpen; simp
@[simp] theorem State.offerOpen_engine (s : State) (c : ChanId) : (s.offerOpen c).engine = s.engine := by unfold State.offerOpen; simp
@[simp] theorem State.offerOpen_clearing (s : State) (c : ChanId) : (s.offerOpen c).clearing = s.clearing := by unfold State.offerOpen; simp
@[simp] theorem State.offerOpen_timeBase (s : State) (c : ChanId) : (s.offerOpen c).timeBase = s.timeBase := by unfold State.offerOpen; simp
@[simp] theorem State.offerOpen_upRx (s : State) (c : ChanId) : (s.offerOpen c).upRx = s.upRx := by unfold State.offerOpen; simp
@[simp] theorem State.offerOpen_dnRx (s : State) (c : ChanId) : (s.offerOpen c).dnRx = s.dnRx := by unfold State.offerOpen; simp
@[simp] theorem State.offerOpen_upTx (s : State) (c : ChanId) : (s.offerOpen c).upTx = s.upTx := by unfold State.offerOpen; simp
@[simp] theorem State.offerOpen_dnTx (s : State) (c : ChanId) : (s.offerOpen c).dnTx = s.dnTx := by unfold State.offerOpen; simp
@[simp] theorem State.offerOpen_relayDown (s : State) (c : ChanId) : (s.offerOpen c).relayDown = s.relayDown := by unfold State.offerOpen; simp
@[simp] theorem State.offerOpen_relayUp (s : State) (c : ChanId) : (s.offerOpen c).relayUp = s.relayUp := by unfold State.offerOpen; simp
@[simp] theorem State.offerOpen_link (s : State) (c : ChanId) : (s.offerOpen c).link = s.link := by unfold State.offerOpen; simp
@[simp] theorem State.offerOpen_relayWait (s : State) (c : ChanId) : (s.offerOpen c).relayWait = s.relayWait := by unfold State.offerOpen; simp
@[simp] theorem State.offerOpen_upServed (s : State) (c : ChanId) : (s.offerOpen c).upServed = s.upServed := by unfold State.offerOpen; simp
@[simp] theorem State.offerOpen_acceptTable (s : State) (c : ChanId) : (s.offerOpen c).acceptTable = s.acceptTable := by unfold State.offerOpen; simp
@[simp] theorem State.offerOpen_stepTable (s : State) (c : ChanId) : (s.offerOpen c).stepTable = s.stepTable := by unfold State.offerOpen; simp
@[simp] theorem State.offerOpen_programTable (s : State) (c : ChanId) : (s.offerOpen c).programTable = s.programTable := by unfold State.offerOpen; simp
@[simp] theorem State.offerOpen_segmentTable (s : State) (c : ChanId) : (s.offerOpen c).segmentTable = s.segmentTable := by unfold State.offerOpen; simp
@[simp] theorem State.offerOpen_profileTable (s : State) (c : ChanId) : (s.offerOpen c).profileTable = s.profileTable := by unfold State.offerOpen; simp
@[simp] theorem State.offerOpen_limitTable (s : State) (c : ChanId) : (s.offerOpen c).limitTable = s.limitTable := by unfold State.offerOpen; simp
@[simp] theorem State.offerOpen_configTable (s : State) (c : ChanId) : (s.offerOpen c).configTable = s.configTable := by unfold State.offerOpen; simp
@[simp] theorem State.offerOpen_requests (s : State) (c : ChanId) : (s.offerOpen c).requests = s.requests := by unfold State.offerOpen; simp
@[simp] theorem State.offerOpen_answers (s : State) (c : ChanId) : (s.offerOpen c).answers = s.answers := by unfold State.offerOpen; simp
@[simp] theorem State.offerOpen_job (s : State) (c : ChanId) : (s.offerOpen c).job = s.job := by unfold State.offerOpen; simp
@[simp] theorem State.offerOpen_resetPending (s : State) (c : ChanId) : (s.offerOpen c).resetPending = s.resetPending := by unfold State.offerOpen; simp
@[simp] theorem State.offerOpen_reports (s : State) (c : ChanId) : (s.offerOpen c).reports = s.reports := by unfold State.offerOpen; simp
@[simp] theorem State.offerOpen_dropCount (s : State) (c : ChanId) : (s.offerOpen c).dropCount = s.dropCount := by unfold State.offerOpen; simp
@[simp] theorem State.offerOpen_fetchQueue (s : State) (c : ChanId) : (s.offerOpen c).fetchQueue = s.fetchQueue := by unfold State.offerOpen; simp
@[simp] theorem State.offerOpen_port (s : State) (c : ChanId) : (s.offerOpen c).port = s.port := by unfold State.offerOpen; simp
@[simp] theorem State.offerOpen_portLast (s : State) (c : ChanId) : (s.offerOpen c).portLast = s.portLast := by unfold State.offerOpen; simp
@[simp] theorem State.offerOpen_readRaces (s : State) (c : ChanId) : (s.offerOpen c).readRaces = s.readRaces := by unfold State.offerOpen; simp
@[simp] theorem State.offerOpen_cfg (s : State) (c : ChanId) (x : ChanId) : (s.offerOpen c).cfg x = s.cfg x := by unfold State.offerOpen; simp
@[simp] theorem State.offerOpen_limits (s : State) (c : ChanId) (x : ChanId) : (s.offerOpen c).limits x = s.limits x := by unfold State.offerOpen; simp
@[simp] theorem State.offerOpen_programDesc (s : State) (c : ChanId) (x : Nat) : (s.offerOpen c).programDesc x = s.programDesc x := by unfold State.offerOpen; simp
@[simp] theorem State.offerOpen_segment (s : State) (c : ChanId) (x : Nat) : (s.offerOpen c).segment x = s.segment x := by unfold State.offerOpen; simp
@[simp] theorem State.offerOpen_profileDesc (s : State) (c : ChanId) (x : Nat) : (s.offerOpen c).profileDesc x = s.profileDesc x := by unfold State.offerOpen; simp
@[simp] theorem State.offerOpen_limitSet (s : State) (c : ChanId) (x : Nat) : (s.offerOpen c).limitSet x = s.limitSet x := by unfold State.offerOpen; simp
@[simp] theorem State.offerOpen_stepRec (s : State) (c : ChanId) (x : Nat) : (s.offerOpen c).stepRec x = s.stepRec x := by unfold State.offerOpen; simp
@[simp] theorem State.offerOpen_tickIn (s : State) (c : ChanId) (x : Nat) : (s.offerOpen c).tickIn x = s.tickIn x := by unfold State.offerOpen; simp
@[simp] theorem State.offerOpen_engineAddress (s : State) (c : ChanId) : (s.offerOpen c).engineAddress = s.engineAddress := by unfold State.offerOpen; simp
@[simp] theorem State.offerOpen_inReset (s : State) (c : ChanId) : (s.offerOpen c).inReset = s.inReset := by unfold State.offerOpen; simp

/-! ### State.joinFetch -/

@[simp] theorem State.joinFetch_pending (s : State) (c : ChanId) : (s.joinFetch c).pending = s.pending := rfl
@[simp] theorem State.joinFetch_resetN (s : State) (c : ChanId) : (s.joinFetch c).resetN = s.resetN := rfl
@[simp] theorem State.joinFetch_estopN (s : State) (c : ChanId) : (s.joinFetch c).estopN = s.estopN := rfl
@[simp] theorem State.joinFetch_maint (s : State) (c : ChanId) : (s.joinFetch c).maint = s.maint := rfl
@[simp] theorem State.joinFetch_addrStrap (s : State) (c : ChanId) : (s.joinFetch c).addrStrap = s.addrStrap := rfl
@[simp] theorem State.joinFetch_rateStrap (s : State) (c : ChanId) : (s.joinFetch c).rateStrap = s.rateStrap := rfl
@[simp] theorem State.joinFetch_engine (s : State) (c : ChanId) : (s.joinFetch c).engine = s.engine := rfl
@[simp] theorem State.joinFetch_clearing (s : State) (c : ChanId) : (s.joinFetch c).clearing = s.clearing := rfl
@[simp] theorem State.joinFetch_timeBase (s : State) (c : ChanId) : (s.joinFetch c).timeBase = s.timeBase := rfl
@[simp] theorem State.joinFetch_upRx (s : State) (c : ChanId) : (s.joinFetch c).upRx = s.upRx := rfl
@[simp] theorem State.joinFetch_dnRx (s : State) (c : ChanId) : (s.joinFetch c).dnRx = s.dnRx := rfl
@[simp] theorem State.joinFetch_upTx (s : State) (c : ChanId) : (s.joinFetch c).upTx = s.upTx := rfl
@[simp] theorem State.joinFetch_dnTx (s : State) (c : ChanId) : (s.joinFetch c).dnTx = s.dnTx := rfl
@[simp] theorem State.joinFetch_relayDown (s : State) (c : ChanId) : (s.joinFetch c).relayDown = s.relayDown := rfl
@[simp] theorem State.joinFetch_relayUp (s : State) (c : ChanId) : (s.joinFetch c).relayUp = s.relayUp := rfl
@[simp] theorem State.joinFetch_link (s : State) (c : ChanId) : (s.joinFetch c).link = s.link := rfl
@[simp] theorem State.joinFetch_relayWait (s : State) (c : ChanId) : (s.joinFetch c).relayWait = s.relayWait := rfl
@[simp] theorem State.joinFetch_upServed (s : State) (c : ChanId) : (s.joinFetch c).upServed = s.upServed := rfl
@[simp] theorem State.joinFetch_acceptTable (s : State) (c : ChanId) : (s.joinFetch c).acceptTable = s.acceptTable := rfl
@[simp] theorem State.joinFetch_stepTable (s : State) (c : ChanId) : (s.joinFetch c).stepTable = s.stepTable := rfl
@[simp] theorem State.joinFetch_programTable (s : State) (c : ChanId) : (s.joinFetch c).programTable = s.programTable := rfl
@[simp] theorem State.joinFetch_segmentTable (s : State) (c : ChanId) : (s.joinFetch c).segmentTable = s.segmentTable := rfl
@[simp] theorem State.joinFetch_profileTable (s : State) (c : ChanId) : (s.joinFetch c).profileTable = s.profileTable := rfl
@[simp] theorem State.joinFetch_limitTable (s : State) (c : ChanId) : (s.joinFetch c).limitTable = s.limitTable := rfl
@[simp] theorem State.joinFetch_configTable (s : State) (c : ChanId) : (s.joinFetch c).configTable = s.configTable := rfl
@[simp] theorem State.joinFetch_requests (s : State) (c : ChanId) : (s.joinFetch c).requests = s.requests := rfl
@[simp] theorem State.joinFetch_answers (s : State) (c : ChanId) : (s.joinFetch c).answers = s.answers := rfl
@[simp] theorem State.joinFetch_job (s : State) (c : ChanId) : (s.joinFetch c).job = s.job := rfl
@[simp] theorem State.joinFetch_resetPending (s : State) (c : ChanId) : (s.joinFetch c).resetPending = s.resetPending := rfl
@[simp] theorem State.joinFetch_reports (s : State) (c : ChanId) : (s.joinFetch c).reports = s.reports := rfl
@[simp] theorem State.joinFetch_dropCount (s : State) (c : ChanId) : (s.joinFetch c).dropCount = s.dropCount := rfl
@[simp] theorem State.joinFetch_port (s : State) (c : ChanId) : (s.joinFetch c).port = s.port := rfl
@[simp] theorem State.joinFetch_portLast (s : State) (c : ChanId) : (s.joinFetch c).portLast = s.portLast := rfl
@[simp] theorem State.joinFetch_readRaces (s : State) (c : ChanId) : (s.joinFetch c).readRaces = s.readRaces := rfl
@[simp] theorem State.joinFetch_nextSince (s : State) (c : ChanId) : (s.joinFetch c).nextSince = s.nextSince := rfl
@[simp] theorem State.joinFetch_channels (s : State) (c : ChanId) : (s.joinFetch c).channels = s.channels := rfl
@[simp] theorem State.joinFetch_cfg (s : State) (c : ChanId) (x : ChanId) : (s.joinFetch c).cfg x = s.cfg x := rfl
@[simp] theorem State.joinFetch_limits (s : State) (c : ChanId) (x : ChanId) : (s.joinFetch c).limits x = s.limits x := rfl
@[simp] theorem State.joinFetch_programDesc (s : State) (c : ChanId) (x : Nat) : (s.joinFetch c).programDesc x = s.programDesc x := rfl
@[simp] theorem State.joinFetch_segment (s : State) (c : ChanId) (x : Nat) : (s.joinFetch c).segment x = s.segment x := rfl
@[simp] theorem State.joinFetch_profileDesc (s : State) (c : ChanId) (x : Nat) : (s.joinFetch c).profileDesc x = s.profileDesc x := rfl
@[simp] theorem State.joinFetch_limitSet (s : State) (c : ChanId) (x : Nat) : (s.joinFetch c).limitSet x = s.limitSet x := rfl
@[simp] theorem State.joinFetch_stepRec (s : State) (c : ChanId) (x : Nat) : (s.joinFetch c).stepRec x = s.stepRec x := rfl
@[simp] theorem State.joinFetch_tickIn (s : State) (c : ChanId) (x : Nat) : (s.joinFetch c).tickIn x = s.tickIn x := rfl
@[simp] theorem State.joinFetch_engineAddress (s : State) (c : ChanId) : (s.joinFetch c).engineAddress = s.engineAddress := rfl
@[simp] theorem State.joinFetch_inReset (s : State) (c : ChanId) : (s.joinFetch c).inReset = s.inReset := rfl
@[simp] theorem State.joinFetch_chan (s : State) (c : ChanId) (x : ChanId) : (s.joinFetch c).chan x = s.chan x := rfl

/-! ### State.leaveFetch -/

@[simp] theorem State.leaveFetch_pending (s : State) (c : ChanId) : (s.leaveFetch c).pending = s.pending := rfl
@[simp] theorem State.leaveFetch_resetN (s : State) (c : ChanId) : (s.leaveFetch c).resetN = s.resetN := rfl
@[simp] theorem State.leaveFetch_estopN (s : State) (c : ChanId) : (s.leaveFetch c).estopN = s.estopN := rfl
@[simp] theorem State.leaveFetch_maint (s : State) (c : ChanId) : (s.leaveFetch c).maint = s.maint := rfl
@[simp] theorem State.leaveFetch_addrStrap (s : State) (c : ChanId) : (s.leaveFetch c).addrStrap = s.addrStrap := rfl
@[simp] theorem State.leaveFetch_rateStrap (s : State) (c : ChanId) : (s.leaveFetch c).rateStrap = s.rateStrap := rfl
@[simp] theorem State.leaveFetch_engine (s : State) (c : ChanId) : (s.leaveFetch c).engine = s.engine := rfl
@[simp] theorem State.leaveFetch_clearing (s : State) (c : ChanId) : (s.leaveFetch c).clearing = s.clearing := rfl
@[simp] theorem State.leaveFetch_timeBase (s : State) (c : ChanId) : (s.leaveFetch c).timeBase = s.timeBase := rfl
@[simp] theorem State.leaveFetch_upRx (s : State) (c : ChanId) : (s.leaveFetch c).upRx = s.upRx := rfl
@[simp] theorem State.leaveFetch_dnRx (s : State) (c : ChanId) : (s.leaveFetch c).dnRx = s.dnRx := rfl
@[simp] theorem State.leaveFetch_upTx (s : State) (c : ChanId) : (s.leaveFetch c).upTx = s.upTx := rfl
@[simp] theorem State.leaveFetch_dnTx (s : State) (c : ChanId) : (s.leaveFetch c).dnTx = s.dnTx := rfl
@[simp] theorem State.leaveFetch_relayDown (s : State) (c : ChanId) : (s.leaveFetch c).relayDown = s.relayDown := rfl
@[simp] theorem State.leaveFetch_relayUp (s : State) (c : ChanId) : (s.leaveFetch c).relayUp = s.relayUp := rfl
@[simp] theorem State.leaveFetch_link (s : State) (c : ChanId) : (s.leaveFetch c).link = s.link := rfl
@[simp] theorem State.leaveFetch_relayWait (s : State) (c : ChanId) : (s.leaveFetch c).relayWait = s.relayWait := rfl
@[simp] theorem State.leaveFetch_upServed (s : State) (c : ChanId) : (s.leaveFetch c).upServed = s.upServed := rfl
@[simp] theorem State.leaveFetch_acceptTable (s : State) (c : ChanId) : (s.leaveFetch c).acceptTable = s.acceptTable := rfl
@[simp] theorem State.leaveFetch_stepTable (s : State) (c : ChanId) : (s.leaveFetch c).stepTable = s.stepTable := rfl
@[simp] theorem State.leaveFetch_programTable (s : State) (c : ChanId) : (s.leaveFetch c).programTable = s.programTable := rfl
@[simp] theorem State.leaveFetch_segmentTable (s : State) (c : ChanId) : (s.leaveFetch c).segmentTable = s.segmentTable := rfl
@[simp] theorem State.leaveFetch_profileTable (s : State) (c : ChanId) : (s.leaveFetch c).profileTable = s.profileTable := rfl
@[simp] theorem State.leaveFetch_limitTable (s : State) (c : ChanId) : (s.leaveFetch c).limitTable = s.limitTable := rfl
@[simp] theorem State.leaveFetch_configTable (s : State) (c : ChanId) : (s.leaveFetch c).configTable = s.configTable := rfl
@[simp] theorem State.leaveFetch_requests (s : State) (c : ChanId) : (s.leaveFetch c).requests = s.requests := rfl
@[simp] theorem State.leaveFetch_answers (s : State) (c : ChanId) : (s.leaveFetch c).answers = s.answers := rfl
@[simp] theorem State.leaveFetch_job (s : State) (c : ChanId) : (s.leaveFetch c).job = s.job := rfl
@[simp] theorem State.leaveFetch_resetPending (s : State) (c : ChanId) : (s.leaveFetch c).resetPending = s.resetPending := rfl
@[simp] theorem State.leaveFetch_reports (s : State) (c : ChanId) : (s.leaveFetch c).reports = s.reports := rfl
@[simp] theorem State.leaveFetch_dropCount (s : State) (c : ChanId) : (s.leaveFetch c).dropCount = s.dropCount := rfl
@[simp] theorem State.leaveFetch_portLast (s : State) (c : ChanId) : (s.leaveFetch c).portLast = s.portLast := rfl
@[simp] theorem State.leaveFetch_readRaces (s : State) (c : ChanId) : (s.leaveFetch c).readRaces = s.readRaces := rfl
@[simp] theorem State.leaveFetch_nextSince (s : State) (c : ChanId) : (s.leaveFetch c).nextSince = s.nextSince := rfl
@[simp] theorem State.leaveFetch_channels (s : State) (c : ChanId) : (s.leaveFetch c).channels = s.channels := rfl
@[simp] theorem State.leaveFetch_cfg (s : State) (c : ChanId) (x : ChanId) : (s.leaveFetch c).cfg x = s.cfg x := rfl
@[simp] theorem State.leaveFetch_limits (s : State) (c : ChanId) (x : ChanId) : (s.leaveFetch c).limits x = s.limits x := rfl
@[simp] theorem State.leaveFetch_programDesc (s : State) (c : ChanId) (x : Nat) : (s.leaveFetch c).programDesc x = s.programDesc x := rfl
@[simp] theorem State.leaveFetch_segment (s : State) (c : ChanId) (x : Nat) : (s.leaveFetch c).segment x = s.segment x := rfl
@[simp] theorem State.leaveFetch_profileDesc (s : State) (c : ChanId) (x : Nat) : (s.leaveFetch c).profileDesc x = s.profileDesc x := rfl
@[simp] theorem State.leaveFetch_limitSet (s : State) (c : ChanId) (x : Nat) : (s.leaveFetch c).limitSet x = s.limitSet x := rfl
@[simp] theorem State.leaveFetch_stepRec (s : State) (c : ChanId) (x : Nat) : (s.leaveFetch c).stepRec x = s.stepRec x := rfl
@[simp] theorem State.leaveFetch_tickIn (s : State) (c : ChanId) (x : Nat) : (s.leaveFetch c).tickIn x = s.tickIn x := rfl
@[simp] theorem State.leaveFetch_engineAddress (s : State) (c : ChanId) : (s.leaveFetch c).engineAddress = s.engineAddress := rfl
@[simp] theorem State.leaveFetch_inReset (s : State) (c : ChanId) : (s.leaveFetch c).inReset = s.inReset := rfl
@[simp] theorem State.leaveFetch_chan (s : State) (c : ChanId) (x : ChanId) : (s.leaveFetch c).chan x = s.chan x := rfl

/-! ### State.giveUp -/

@[simp] theorem State.giveUp_pending (s : State) (c : ChanId) : (s.giveUp c).pending = s.pending := rfl
@[simp] theorem State.giveUp_resetN (s : State) (c : ChanId) : (s.giveUp c).resetN = s.resetN := rfl
@[simp] theorem State.giveUp_estopN (s : State) (c : ChanId) : (s.giveUp c).estopN = s.estopN := rfl
@[simp] theorem State.giveUp_maint (s : State) (c : ChanId) : (s.giveUp c).maint = s.maint := rfl
@[simp] theorem State.giveUp_addrStrap (s : State) (c : ChanId) : (s.giveUp c).addrStrap = s.addrStrap := rfl
@[simp] theorem State.giveUp_rateStrap (s : State) (c : ChanId) : (s.giveUp c).rateStrap = s.rateStrap := rfl
@[simp] theorem State.giveUp_engine (s : State) (c : ChanId) : (s.giveUp c).engine = s.engine := rfl
@[simp] theorem State.giveUp_clearing (s : State) (c : ChanId) : (s.giveUp c).clearing = s.clearing := rfl
@[simp] theorem State.giveUp_timeBase (s : State) (c : ChanId) : (s.giveUp c).timeBase = s.timeBase := rfl
@[simp] theorem State.giveUp_upRx (s : State) (c : ChanId) : (s.giveUp c).upRx = s.upRx := rfl
@[simp] theorem State.giveUp_dnRx (s : State) (c : ChanId) : (s.giveUp c).dnRx = s.dnRx := rfl
@[simp] theorem State.giveUp_upTx (s : State) (c : ChanId) : (s.giveUp c).upTx = s.upTx := rfl
@[simp] theorem State.giveUp_dnTx (s : State) (c : ChanId) : (s.giveUp c).dnTx = s.dnTx := rfl
@[simp] theorem State.giveUp_relayDown (s : State) (c : ChanId) : (s.giveUp c).relayDown = s.relayDown := rfl
@[simp] theorem State.giveUp_relayUp (s : State) (c : ChanId) : (s.giveUp c).relayUp = s.relayUp := rfl
@[simp] theorem State.giveUp_link (s : State) (c : ChanId) : (s.giveUp c).link = s.link := rfl
@[simp] theorem State.giveUp_relayWait (s : State) (c : ChanId) : (s.giveUp c).relayWait = s.relayWait := rfl
@[simp] theorem State.giveUp_upServed (s : State) (c : ChanId) : (s.giveUp c).upServed = s.upServed := rfl
@[simp] theorem State.giveUp_acceptTable (s : State) (c : ChanId) : (s.giveUp c).acceptTable = s.acceptTable := rfl
@[simp] theorem State.giveUp_stepTable (s : State) (c : ChanId) : (s.giveUp c).stepTable = s.stepTable := rfl
@[simp] theorem State.giveUp_programTable (s : State) (c : ChanId) : (s.giveUp c).programTable = s.programTable := rfl
@[simp] theorem State.giveUp_segmentTable (s : State) (c : ChanId) : (s.giveUp c).segmentTable = s.segmentTable := rfl
@[simp] theorem State.giveUp_profileTable (s : State) (c : ChanId) : (s.giveUp c).profileTable = s.profileTable := rfl
@[simp] theorem State.giveUp_limitTable (s : State) (c : ChanId) : (s.giveUp c).limitTable = s.limitTable := rfl
@[simp] theorem State.giveUp_configTable (s : State) (c : ChanId) : (s.giveUp c).configTable = s.configTable := rfl
@[simp] theorem State.giveUp_requests (s : State) (c : ChanId) : (s.giveUp c).requests = s.requests := rfl
@[simp] theorem State.giveUp_answers (s : State) (c : ChanId) : (s.giveUp c).answers = s.answers := rfl
@[simp] theorem State.giveUp_job (s : State) (c : ChanId) : (s.giveUp c).job = s.job := rfl
@[simp] theorem State.giveUp_resetPending (s : State) (c : ChanId) : (s.giveUp c).resetPending = s.resetPending := rfl
@[simp] theorem State.giveUp_reports (s : State) (c : ChanId) : (s.giveUp c).reports = s.reports := rfl
@[simp] theorem State.giveUp_dropCount (s : State) (c : ChanId) : (s.giveUp c).dropCount = s.dropCount := rfl
@[simp] theorem State.giveUp_portLast (s : State) (c : ChanId) : (s.giveUp c).portLast = s.portLast := rfl
@[simp] theorem State.giveUp_readRaces (s : State) (c : ChanId) : (s.giveUp c).readRaces = s.readRaces := rfl
@[simp] theorem State.giveUp_nextSince (s : State) (c : ChanId) : (s.giveUp c).nextSince = s.nextSince := rfl
@[simp] theorem State.giveUp_cfg (s : State) (c : ChanId) (x : ChanId) : (s.giveUp c).cfg x = s.cfg x := rfl
@[simp] theorem State.giveUp_limits (s : State) (c : ChanId) (x : ChanId) : (s.giveUp c).limits x = s.limits x := rfl
@[simp] theorem State.giveUp_programDesc (s : State) (c : ChanId) (x : Nat) : (s.giveUp c).programDesc x = s.programDesc x := rfl
@[simp] theorem State.giveUp_segment (s : State) (c : ChanId) (x : Nat) : (s.giveUp c).segment x = s.segment x := rfl
@[simp] theorem State.giveUp_profileDesc (s : State) (c : ChanId) (x : Nat) : (s.giveUp c).profileDesc x = s.profileDesc x := rfl
@[simp] theorem State.giveUp_limitSet (s : State) (c : ChanId) (x : Nat) : (s.giveUp c).limitSet x = s.limitSet x := rfl
@[simp] theorem State.giveUp_stepRec (s : State) (c : ChanId) (x : Nat) : (s.giveUp c).stepRec x = s.stepRec x := rfl
@[simp] theorem State.giveUp_tickIn (s : State) (c : ChanId) (x : Nat) : (s.giveUp c).tickIn x = s.tickIn x := rfl
@[simp] theorem State.giveUp_engineAddress (s : State) (c : ChanId) : (s.giveUp c).engineAddress = s.engineAddress := rfl
@[simp] theorem State.giveUp_inReset (s : State) (c : ChanId) : (s.giveUp c).inReset = s.inReset := rfl

/-! ### State.placeAnswer -/

@[simp] theorem State.placeAnswer_pending (s : State) (r : Request) (st : Status) (l : List Byte) : (s.placeAnswer r st l).pending = s.pending := rfl
@[simp] theorem State.placeAnswer_resetN (s : State) (r : Request) (st : Status) (l : List Byte) : (s.placeAnswer r st l).resetN = s.resetN := rfl
@[simp] theorem State.placeAnswer_estopN (s : State) (r : Request) (st : Status) (l : List Byte) : (s.placeAnswer r st l).estopN = s.estopN := rfl
@[simp] theorem State.placeAnswer_maint (s : State) (r : Request) (st : Status) (l : List Byte) : (s.placeAnswer r st l).maint = s.maint := rfl
@[simp] theorem State.placeAnswer_addrStrap (s : State) (r : Request) (st : Status) (l : List Byte) : (s.placeAnswer r st l).addrStrap = s.addrStrap := rfl
@[simp] theorem State.placeAnswer_rateStrap (s : State) (r : Request) (st : Status) (l : List Byte) : (s.placeAnswer r st l).rateStrap = s.rateStrap := rfl
@[simp] theorem State.placeAnswer_engine (s : State) (r : Request) (st : Status) (l : List Byte) : (s.placeAnswer r st l).engine = s.engine := rfl
@[simp] theorem State.placeAnswer_clearing (s : State) (r : Request) (st : Status) (l : List Byte) : (s.placeAnswer r st l).clearing = s.clearing := rfl
@[simp] theorem State.placeAnswer_timeBase (s : State) (r : Request) (st : Status) (l : List Byte) : (s.placeAnswer r st l).timeBase = s.timeBase := rfl
@[simp] theorem State.placeAnswer_upRx (s : State) (r : Request) (st : Status) (l : List Byte) : (s.placeAnswer r st l).upRx = s.upRx := rfl
@[simp] theorem State.placeAnswer_dnRx (s : State) (r : Request) (st : Status) (l : List Byte) : (s.placeAnswer r st l).dnRx = s.dnRx := rfl
@[simp] theorem State.placeAnswer_upTx (s : State) (r : Request) (st : Status) (l : List Byte) : (s.placeAnswer r st l).upTx = s.upTx := rfl
@[simp] theorem State.placeAnswer_dnTx (s : State) (r : Request) (st : Status) (l : List Byte) : (s.placeAnswer r st l).dnTx = s.dnTx := rfl
@[simp] theorem State.placeAnswer_relayDown (s : State) (r : Request) (st : Status) (l : List Byte) : (s.placeAnswer r st l).relayDown = s.relayDown := rfl
@[simp] theorem State.placeAnswer_relayUp (s : State) (r : Request) (st : Status) (l : List Byte) : (s.placeAnswer r st l).relayUp = s.relayUp := rfl
@[simp] theorem State.placeAnswer_link (s : State) (r : Request) (st : Status) (l : List Byte) : (s.placeAnswer r st l).link = s.link := rfl
@[simp] theorem State.placeAnswer_relayWait (s : State) (r : Request) (st : Status) (l : List Byte) : (s.placeAnswer r st l).relayWait = s.relayWait := rfl
@[simp] theorem State.placeAnswer_upServed (s : State) (r : Request) (st : Status) (l : List Byte) : (s.placeAnswer r st l).upServed = s.upServed := rfl
@[simp] theorem State.placeAnswer_acceptTable (s : State) (r : Request) (st : Status) (l : List Byte) : (s.placeAnswer r st l).acceptTable = s.acceptTable := rfl
@[simp] theorem State.placeAnswer_stepTable (s : State) (r : Request) (st : Status) (l : List Byte) : (s.placeAnswer r st l).stepTable = s.stepTable := rfl
@[simp] theorem State.placeAnswer_programTable (s : State) (r : Request) (st : Status) (l : List Byte) : (s.placeAnswer r st l).programTable = s.programTable := rfl
@[simp] theorem State.placeAnswer_segmentTable (s : State) (r : Request) (st : Status) (l : List Byte) : (s.placeAnswer r st l).segmentTable = s.segmentTable := rfl
@[simp] theorem State.placeAnswer_profileTable (s : State) (r : Request) (st : Status) (l : List Byte) : (s.placeAnswer r st l).profileTable = s.profileTable := rfl
@[simp] theorem State.placeAnswer_limitTable (s : State) (r : Request) (st : Status) (l : List Byte) : (s.placeAnswer r st l).limitTable = s.limitTable := rfl
@[simp] theorem State.placeAnswer_configTable (s : State) (r : Request) (st : Status) (l : List Byte) : (s.placeAnswer r st l).configTable = s.configTable := rfl
@[simp] theorem State.placeAnswer_resetPending (s : State) (r : Request) (st : Status) (l : List Byte) : (s.placeAnswer r st l).resetPending = s.resetPending := rfl
@[simp] theorem State.placeAnswer_reports (s : State) (r : Request) (st : Status) (l : List Byte) : (s.placeAnswer r st l).reports = s.reports := rfl
@[simp] theorem State.placeAnswer_dropCount (s : State) (r : Request) (st : Status) (l : List Byte) : (s.placeAnswer r st l).dropCount = s.dropCount := rfl
@[simp] theorem State.placeAnswer_fetchQueue (s : State) (r : Request) (st : Status) (l : List Byte) : (s.placeAnswer r st l).fetchQueue = s.fetchQueue := rfl
@[simp] theorem State.placeAnswer_port (s : State) (r : Request) (st : Status) (l : List Byte) : (s.placeAnswer r st l).port = s.port := rfl
@[simp] theorem State.placeAnswer_portLast (s : State) (r : Request) (st : Status) (l : List Byte) : (s.placeAnswer r st l).portLast = s.portLast := rfl
@[simp] theorem State.placeAnswer_readRaces (s : State) (r : Request) (st : Status) (l : List Byte) : (s.placeAnswer r st l).readRaces = s.readRaces := rfl
@[simp] theorem State.placeAnswer_nextSince (s : State) (r : Request) (st : Status) (l : List Byte) : (s.placeAnswer r st l).nextSince = s.nextSince := rfl
@[simp] theorem State.placeAnswer_channels (s : State) (r : Request) (st : Status) (l : List Byte) : (s.placeAnswer r st l).channels = s.channels := rfl
@[simp] theorem State.placeAnswer_cfg (s : State) (r : Request) (st : Status) (l : List Byte) (x : ChanId) : (s.placeAnswer r st l).cfg x = s.cfg x := rfl
@[simp] theorem State.placeAnswer_limits (s : State) (r : Request) (st : Status) (l : List Byte) (x : ChanId) : (s.placeAnswer r st l).limits x = s.limits x := rfl
@[simp] theorem State.placeAnswer_programDesc (s : State) (r : Request) (st : Status) (l : List Byte) (x : Nat) : (s.placeAnswer r st l).programDesc x = s.programDesc x := rfl
@[simp] theorem State.placeAnswer_segment (s : State) (r : Request) (st : Status) (l : List Byte) (x : Nat) : (s.placeAnswer r st l).segment x = s.segment x := rfl
@[simp] theorem State.placeAnswer_profileDesc (s : State) (r : Request) (st : Status) (l : List Byte) (x : Nat) : (s.placeAnswer r st l).profileDesc x = s.profileDesc x := rfl
@[simp] theorem State.placeAnswer_limitSet (s : State) (r : Request) (st : Status) (l : List Byte) (x : Nat) : (s.placeAnswer r st l).limitSet x = s.limitSet x := rfl
@[simp] theorem State.placeAnswer_stepRec (s : State) (r : Request) (st : Status) (l : List Byte) (x : Nat) : (s.placeAnswer r st l).stepRec x = s.stepRec x := rfl
@[simp] theorem State.placeAnswer_tickIn (s : State) (r : Request) (st : Status) (l : List Byte) (x : Nat) : (s.placeAnswer r st l).tickIn x = s.tickIn x := rfl
@[simp] theorem State.placeAnswer_engineAddress (s : State) (r : Request) (st : Status) (l : List Byte) : (s.placeAnswer r st l).engineAddress = s.engineAddress := rfl
@[simp] theorem State.placeAnswer_inReset (s : State) (r : Request) (st : Status) (l : List Byte) : (s.placeAnswer r st l).inReset = s.inReset := rfl
@[simp] theorem State.placeAnswer_chan (s : State) (r : Request) (st : Status) (l : List Byte) (x : ChanId) : (s.placeAnswer r st l).chan x = s.chan x := rfl

/-! ### State.refuse -/

@[simp] theorem State.refuse_pending (s : State) (r : Request) (st : Status) : (s.refuse r st).pending = s.pending := rfl
@[simp] theorem State.refuse_resetN (s : State) (r : Request) (st : Status) : (s.refuse r st).resetN = s.resetN := rfl
@[simp] theorem State.refuse_estopN (s : State) (r : Request) (st : Status) : (s.refuse r st).estopN = s.estopN := rfl
@[simp] theorem State.refuse_maint (s : State) (r : Request) (st : Status) : (s.refuse r st).maint = s.maint := rfl
@[simp] theorem State.refuse_addrStrap (s : State) (r : Request) (st : Status) : (s.refuse r st).addrStrap = s.addrStrap := rfl
@[simp] theorem State.refuse_rateStrap (s : State) (r : Request) (st : Status) : (s.refuse r st).rateStrap = s.rateStrap := rfl
@[simp] theorem State.refuse_engine (s : State) (r : Request) (st : Status) : (s.refuse r st).engine = s.engine := rfl
@[simp] theorem State.refuse_clearing (s : State) (r : Request) (st : Status) : (s.refuse r st).clearing = s.clearing := rfl
@[simp] theorem State.refuse_timeBase (s : State) (r : Request) (st : Status) : (s.refuse r st).timeBase = s.timeBase := rfl
@[simp] theorem State.refuse_upRx (s : State) (r : Request) (st : Status) : (s.refuse r st).upRx = s.upRx := rfl
@[simp] theorem State.refuse_dnRx (s : State) (r : Request) (st : Status) : (s.refuse r st).dnRx = s.dnRx := rfl
@[simp] theorem State.refuse_upTx (s : State) (r : Request) (st : Status) : (s.refuse r st).upTx = s.upTx := rfl
@[simp] theorem State.refuse_dnTx (s : State) (r : Request) (st : Status) : (s.refuse r st).dnTx = s.dnTx := rfl
@[simp] theorem State.refuse_relayDown (s : State) (r : Request) (st : Status) : (s.refuse r st).relayDown = s.relayDown := rfl
@[simp] theorem State.refuse_relayUp (s : State) (r : Request) (st : Status) : (s.refuse r st).relayUp = s.relayUp := rfl
@[simp] theorem State.refuse_link (s : State) (r : Request) (st : Status) : (s.refuse r st).link = s.link := rfl
@[simp] theorem State.refuse_relayWait (s : State) (r : Request) (st : Status) : (s.refuse r st).relayWait = s.relayWait := rfl
@[simp] theorem State.refuse_upServed (s : State) (r : Request) (st : Status) : (s.refuse r st).upServed = s.upServed := rfl
@[simp] theorem State.refuse_acceptTable (s : State) (r : Request) (st : Status) : (s.refuse r st).acceptTable = s.acceptTable := rfl
@[simp] theorem State.refuse_stepTable (s : State) (r : Request) (st : Status) : (s.refuse r st).stepTable = s.stepTable := rfl
@[simp] theorem State.refuse_programTable (s : State) (r : Request) (st : Status) : (s.refuse r st).programTable = s.programTable := rfl
@[simp] theorem State.refuse_segmentTable (s : State) (r : Request) (st : Status) : (s.refuse r st).segmentTable = s.segmentTable := rfl
@[simp] theorem State.refuse_profileTable (s : State) (r : Request) (st : Status) : (s.refuse r st).profileTable = s.profileTable := rfl
@[simp] theorem State.refuse_limitTable (s : State) (r : Request) (st : Status) : (s.refuse r st).limitTable = s.limitTable := rfl
@[simp] theorem State.refuse_configTable (s : State) (r : Request) (st : Status) : (s.refuse r st).configTable = s.configTable := rfl
@[simp] theorem State.refuse_resetPending (s : State) (r : Request) (st : Status) : (s.refuse r st).resetPending = s.resetPending := rfl
@[simp] theorem State.refuse_reports (s : State) (r : Request) (st : Status) : (s.refuse r st).reports = s.reports := rfl
@[simp] theorem State.refuse_dropCount (s : State) (r : Request) (st : Status) : (s.refuse r st).dropCount = s.dropCount := rfl
@[simp] theorem State.refuse_fetchQueue (s : State) (r : Request) (st : Status) : (s.refuse r st).fetchQueue = s.fetchQueue := rfl
@[simp] theorem State.refuse_port (s : State) (r : Request) (st : Status) : (s.refuse r st).port = s.port := rfl
@[simp] theorem State.refuse_portLast (s : State) (r : Request) (st : Status) : (s.refuse r st).portLast = s.portLast := rfl
@[simp] theorem State.refuse_readRaces (s : State) (r : Request) (st : Status) : (s.refuse r st).readRaces = s.readRaces := rfl
@[simp] theorem State.refuse_nextSince (s : State) (r : Request) (st : Status) : (s.refuse r st).nextSince = s.nextSince := rfl
@[simp] theorem State.refuse_channels (s : State) (r : Request) (st : Status) : (s.refuse r st).channels = s.channels := rfl
@[simp] theorem State.refuse_cfg (s : State) (r : Request) (st : Status) (x : ChanId) : (s.refuse r st).cfg x = s.cfg x := rfl
@[simp] theorem State.refuse_limits (s : State) (r : Request) (st : Status) (x : ChanId) : (s.refuse r st).limits x = s.limits x := rfl
@[simp] theorem State.refuse_programDesc (s : State) (r : Request) (st : Status) (x : Nat) : (s.refuse r st).programDesc x = s.programDesc x := rfl
@[simp] theorem State.refuse_segment (s : State) (r : Request) (st : Status) (x : Nat) : (s.refuse r st).segment x = s.segment x := rfl
@[simp] theorem State.refuse_profileDesc (s : State) (r : Request) (st : Status) (x : Nat) : (s.refuse r st).profileDesc x = s.profileDesc x := rfl
@[simp] theorem State.refuse_limitSet (s : State) (r : Request) (st : Status) (x : Nat) : (s.refuse r st).limitSet x = s.limitSet x := rfl
@[simp] theorem State.refuse_stepRec (s : State) (r : Request) (st : Status) (x : Nat) : (s.refuse r st).stepRec x = s.stepRec x := rfl
@[simp] theorem State.refuse_tickIn (s : State) (r : Request) (st : Status) (x : Nat) : (s.refuse r st).tickIn x = s.tickIn x := rfl
@[simp] theorem State.refuse_engineAddress (s : State) (r : Request) (st : Status) : (s.refuse r st).engineAddress = s.engineAddress := rfl
@[simp] theorem State.refuse_inReset (s : State) (r : Request) (st : Status) : (s.refuse r st).inReset = s.inReset := rfl
@[simp] theorem State.refuse_chan (s : State) (r : Request) (st : Status) (x : ChanId) : (s.refuse r st).chan x = s.chan x := rfl

/-! ### State.countLink -/

@[simp] theorem State.countLink_pending (s : State) (f : LinkCounters → LinkCounters) : (s.countLink f).pending = s.pending := rfl
@[simp] theorem State.countLink_resetN (s : State) (f : LinkCounters → LinkCounters) : (s.countLink f).resetN = s.resetN := rfl
@[simp] theorem State.countLink_estopN (s : State) (f : LinkCounters → LinkCounters) : (s.countLink f).estopN = s.estopN := rfl
@[simp] theorem State.countLink_maint (s : State) (f : LinkCounters → LinkCounters) : (s.countLink f).maint = s.maint := rfl
@[simp] theorem State.countLink_addrStrap (s : State) (f : LinkCounters → LinkCounters) : (s.countLink f).addrStrap = s.addrStrap := rfl
@[simp] theorem State.countLink_rateStrap (s : State) (f : LinkCounters → LinkCounters) : (s.countLink f).rateStrap = s.rateStrap := rfl
@[simp] theorem State.countLink_engine (s : State) (f : LinkCounters → LinkCounters) : (s.countLink f).engine = s.engine := rfl
@[simp] theorem State.countLink_clearing (s : State) (f : LinkCounters → LinkCounters) : (s.countLink f).clearing = s.clearing := rfl
@[simp] theorem State.countLink_timeBase (s : State) (f : LinkCounters → LinkCounters) : (s.countLink f).timeBase = s.timeBase := rfl
@[simp] theorem State.countLink_upRx (s : State) (f : LinkCounters → LinkCounters) : (s.countLink f).upRx = s.upRx := rfl
@[simp] theorem State.countLink_dnRx (s : State) (f : LinkCounters → LinkCounters) : (s.countLink f).dnRx = s.dnRx := rfl
@[simp] theorem State.countLink_upTx (s : State) (f : LinkCounters → LinkCounters) : (s.countLink f).upTx = s.upTx := rfl
@[simp] theorem State.countLink_dnTx (s : State) (f : LinkCounters → LinkCounters) : (s.countLink f).dnTx = s.dnTx := rfl
@[simp] theorem State.countLink_relayDown (s : State) (f : LinkCounters → LinkCounters) : (s.countLink f).relayDown = s.relayDown := rfl
@[simp] theorem State.countLink_relayUp (s : State) (f : LinkCounters → LinkCounters) : (s.countLink f).relayUp = s.relayUp := rfl
@[simp] theorem State.countLink_relayWait (s : State) (f : LinkCounters → LinkCounters) : (s.countLink f).relayWait = s.relayWait := rfl
@[simp] theorem State.countLink_upServed (s : State) (f : LinkCounters → LinkCounters) : (s.countLink f).upServed = s.upServed := rfl
@[simp] theorem State.countLink_acceptTable (s : State) (f : LinkCounters → LinkCounters) : (s.countLink f).acceptTable = s.acceptTable := rfl
@[simp] theorem State.countLink_stepTable (s : State) (f : LinkCounters → LinkCounters) : (s.countLink f).stepTable = s.stepTable := rfl
@[simp] theorem State.countLink_programTable (s : State) (f : LinkCounters → LinkCounters) : (s.countLink f).programTable = s.programTable := rfl
@[simp] theorem State.countLink_segmentTable (s : State) (f : LinkCounters → LinkCounters) : (s.countLink f).segmentTable = s.segmentTable := rfl
@[simp] theorem State.countLink_profileTable (s : State) (f : LinkCounters → LinkCounters) : (s.countLink f).profileTable = s.profileTable := rfl
@[simp] theorem State.countLink_limitTable (s : State) (f : LinkCounters → LinkCounters) : (s.countLink f).limitTable = s.limitTable := rfl
@[simp] theorem State.countLink_configTable (s : State) (f : LinkCounters → LinkCounters) : (s.countLink f).configTable = s.configTable := rfl
@[simp] theorem State.countLink_requests (s : State) (f : LinkCounters → LinkCounters) : (s.countLink f).requests = s.requests := rfl
@[simp] theorem State.countLink_answers (s : State) (f : LinkCounters → LinkCounters) : (s.countLink f).answers = s.answers := rfl
@[simp] theorem State.countLink_job (s : State) (f : LinkCounters → LinkCounters) : (s.countLink f).job = s.job := rfl
@[simp] theorem State.countLink_resetPending (s : State) (f : LinkCounters → LinkCounters) : (s.countLink f).resetPending = s.resetPending := rfl
@[simp] theorem State.countLink_reports (s : State) (f : LinkCounters → LinkCounters) : (s.countLink f).reports = s.reports := rfl
@[simp] theorem State.countLink_dropCount (s : State) (f : LinkCounters → LinkCounters) : (s.countLink f).dropCount = s.dropCount := rfl
@[simp] theorem State.countLink_fetchQueue (s : State) (f : LinkCounters → LinkCounters) : (s.countLink f).fetchQueue = s.fetchQueue := rfl
@[simp] theorem State.countLink_port (s : State) (f : LinkCounters → LinkCounters) : (s.countLink f).port = s.port := rfl
@[simp] theorem State.countLink_portLast (s : State) (f : LinkCounters → LinkCounters) : (s.countLink f).portLast = s.portLast := rfl
@[simp] theorem State.countLink_readRaces (s : State) (f : LinkCounters → LinkCounters) : (s.countLink f).readRaces = s.readRaces := rfl
@[simp] theorem State.countLink_nextSince (s : State) (f : LinkCounters → LinkCounters) : (s.countLink f).nextSince = s.nextSince := rfl
@[simp] theorem State.countLink_channels (s : State) (f : LinkCounters → LinkCounters) : (s.countLink f).channels = s.channels := rfl
@[simp] theorem State.countLink_cfg (s : State) (f : LinkCounters → LinkCounters) (x : ChanId) : (s.countLink f).cfg x = s.cfg x := rfl
@[simp] theorem State.countLink_limits (s : State) (f : LinkCounters → LinkCounters) (x : ChanId) : (s.countLink f).limits x = s.limits x := rfl
@[simp] theorem State.countLink_programDesc (s : State) (f : LinkCounters → LinkCounters) (x : Nat) : (s.countLink f).programDesc x = s.programDesc x := rfl
@[simp] theorem State.countLink_segment (s : State) (f : LinkCounters → LinkCounters) (x : Nat) : (s.countLink f).segment x = s.segment x := rfl
@[simp] theorem State.countLink_profileDesc (s : State) (f : LinkCounters → LinkCounters) (x : Nat) : (s.countLink f).profileDesc x = s.profileDesc x := rfl
@[simp] theorem State.countLink_limitSet (s : State) (f : LinkCounters → LinkCounters) (x : Nat) : (s.countLink f).limitSet x = s.limitSet x := rfl
@[simp] theorem State.countLink_stepRec (s : State) (f : LinkCounters → LinkCounters) (x : Nat) : (s.countLink f).stepRec x = s.stepRec x := rfl
@[simp] theorem State.countLink_tickIn (s : State) (f : LinkCounters → LinkCounters) (x : Nat) : (s.countLink f).tickIn x = s.tickIn x := rfl
@[simp] theorem State.countLink_engineAddress (s : State) (f : LinkCounters → LinkCounters) : (s.countLink f).engineAddress = s.engineAddress := rfl
@[simp] theorem State.countLink_inReset (s : State) (f : LinkCounters → LinkCounters) : (s.countLink f).inReset = s.inReset := rfl
@[simp] theorem State.countLink_chan (s : State) (f : LinkCounters → LinkCounters) (x : ChanId) : (s.countLink f).chan x = s.chan x := rfl

/-! ### State.setRx -/

@[simp] theorem State.setRx_pending (s : State) (p : Port) (r : RxState) : (s.setRx p r).pending = s.pending := by cases p <;> rfl
@[simp] theorem State.setRx_resetN (s : State) (p : Port) (r : RxState) : (s.setRx p r).resetN = s.resetN := by cases p <;> rfl
@[simp] theorem State.setRx_estopN (s : State) (p : Port) (r : RxState) : (s.setRx p r).estopN = s.estopN := by cases p <;> rfl
@[simp] theorem State.setRx_maint (s : State) (p : Port) (r : RxState) : (s.setRx p r).maint = s.maint := by cases p <;> rfl
@[simp] theorem State.setRx_addrStrap (s : State) (p : Port) (r : RxState) : (s.setRx p r).addrStrap = s.addrStrap := by cases p <;> rfl
@[simp] theorem State.setRx_rateStrap (s : State) (p : Port) (r : RxState) : (s.setRx p r).rateStrap = s.rateStrap := by cases p <;> rfl
@[simp] theorem State.setRx_engine (s : State) (p : Port) (r : RxState) : (s.setRx p r).engine = s.engine := by cases p <;> rfl
@[simp] theorem State.setRx_clearing (s : State) (p : Port) (r : RxState) : (s.setRx p r).clearing = s.clearing := by cases p <;> rfl
@[simp] theorem State.setRx_timeBase (s : State) (p : Port) (r : RxState) : (s.setRx p r).timeBase = s.timeBase := by cases p <;> rfl
@[simp] theorem State.setRx_upTx (s : State) (p : Port) (r : RxState) : (s.setRx p r).upTx = s.upTx := by cases p <;> rfl
@[simp] theorem State.setRx_dnTx (s : State) (p : Port) (r : RxState) : (s.setRx p r).dnTx = s.dnTx := by cases p <;> rfl
@[simp] theorem State.setRx_relayDown (s : State) (p : Port) (r : RxState) : (s.setRx p r).relayDown = s.relayDown := by cases p <;> rfl
@[simp] theorem State.setRx_relayUp (s : State) (p : Port) (r : RxState) : (s.setRx p r).relayUp = s.relayUp := by cases p <;> rfl
@[simp] theorem State.setRx_link (s : State) (p : Port) (r : RxState) : (s.setRx p r).link = s.link := by cases p <;> rfl
@[simp] theorem State.setRx_relayWait (s : State) (p : Port) (r : RxState) : (s.setRx p r).relayWait = s.relayWait := by cases p <;> rfl
@[simp] theorem State.setRx_upServed (s : State) (p : Port) (r : RxState) : (s.setRx p r).upServed = s.upServed := by cases p <;> rfl
@[simp] theorem State.setRx_acceptTable (s : State) (p : Port) (r : RxState) : (s.setRx p r).acceptTable = s.acceptTable := by cases p <;> rfl
@[simp] theorem State.setRx_stepTable (s : State) (p : Port) (r : RxState) : (s.setRx p r).stepTable = s.stepTable := by cases p <;> rfl
@[simp] theorem State.setRx_programTable (s : State) (p : Port) (r : RxState) : (s.setRx p r).programTable = s.programTable := by cases p <;> rfl
@[simp] theorem State.setRx_segmentTable (s : State) (p : Port) (r : RxState) : (s.setRx p r).segmentTable = s.segmentTable := by cases p <;> rfl
@[simp] theorem State.setRx_profileTable (s : State) (p : Port) (r : RxState) : (s.setRx p r).profileTable = s.profileTable := by cases p <;> rfl
@[simp] theorem State.setRx_limitTable (s : State) (p : Port) (r : RxState) : (s.setRx p r).limitTable = s.limitTable := by cases p <;> rfl
@[simp] theorem State.setRx_configTable (s : State) (p : Port) (r : RxState) : (s.setRx p r).configTable = s.configTable := by cases p <;> rfl
@[simp] theorem State.setRx_requests (s : State) (p : Port) (r : RxState) : (s.setRx p r).requests = s.requests := by cases p <;> rfl
@[simp] theorem State.setRx_answers (s : State) (p : Port) (r : RxState) : (s.setRx p r).answers = s.answers := by cases p <;> rfl
@[simp] theorem State.setRx_job (s : State) (p : Port) (r : RxState) : (s.setRx p r).job = s.job := by cases p <;> rfl
@[simp] theorem State.setRx_resetPending (s : State) (p : Port) (r : RxState) : (s.setRx p r).resetPending = s.resetPending := by cases p <;> rfl
@[simp] theorem State.setRx_reports (s : State) (p : Port) (r : RxState) : (s.setRx p r).reports = s.reports := by cases p <;> rfl
@[simp] theorem State.setRx_dropCount (s : State) (p : Port) (r : RxState) : (s.setRx p r).dropCount = s.dropCount := by cases p <;> rfl
@[simp] theorem State.setRx_fetchQueue (s : State) (p : Port) (r : RxState) : (s.setRx p r).fetchQueue = s.fetchQueue := by cases p <;> rfl
@[simp] theorem State.setRx_port (s : State) (p : Port) (r : RxState) : (s.setRx p r).port = s.port := by cases p <;> rfl
@[simp] theorem State.setRx_portLast (s : State) (p : Port) (r : RxState) : (s.setRx p r).portLast = s.portLast := by cases p <;> rfl
@[simp] theorem State.setRx_readRaces (s : State) (p : Port) (r : RxState) : (s.setRx p r).readRaces = s.readRaces := by cases p <;> rfl
@[simp] theorem State.setRx_nextSince (s : State) (p : Port) (r : RxState) : (s.setRx p r).nextSince = s.nextSince := by cases p <;> rfl
@[simp] theorem State.setRx_channels (s : State) (p : Port) (r : RxState) : (s.setRx p r).channels = s.channels := by cases p <;> rfl
@[simp] theorem State.setRx_cfg (s : State) (p : Port) (r : RxState) (x : ChanId) : (s.setRx p r).cfg x = s.cfg x := by cases p <;> rfl
@[simp] theorem State.setRx_limits (s : State) (p : Port) (r : RxState) (x : ChanId) : (s.setRx p r).limits x = s.limits x := by cases p <;> rfl
@[simp] theorem State.setRx_programDesc (s : State) (p : Port) (r : RxState) (x : Nat) : (s.setRx p r).programDesc x = s.programDesc x := by cases p <;> rfl
@[simp] theorem State.setRx_segment (s : State) (p : Port) (r : RxState) (x : Nat) : (s.setRx p r).segment x = s.segment x := by cases p <;> rfl
@[simp] theorem State.setRx_profileDesc (s : State) (p : Port) (r : RxState) (x : Nat) : (s.setRx p r).profileDesc x = s.profileDesc x := by cases p <;> rfl
@[simp] theorem State.setRx_limitSet (s : State) (p : Port) (r : RxState) (x : Nat) : (s.setRx p r).limitSet x = s.limitSet x := by cases p <;> rfl
@[simp] theorem State.setRx_stepRec (s : State) (p : Port) (r : RxState) (x : Nat) : (s.setRx p r).stepRec x = s.stepRec x := by cases p <;> rfl
@[simp] theorem State.setRx_tickIn (s : State) (p : Port) (r : RxState) (x : Nat) : (s.setRx p r).tickIn x = s.tickIn x := by cases p <;> rfl
@[simp] theorem State.setRx_engineAddress (s : State) (p : Port) (r : RxState) : (s.setRx p r).engineAddress = s.engineAddress := by cases p <;> rfl
@[simp] theorem State.setRx_inReset (s : State) (p : Port) (r : RxState) : (s.setRx p r).inReset = s.inReset := by cases p <;> rfl
@[simp] theorem State.setRx_chan (s : State) (p : Port) (r : RxState) (x : ChanId) : (s.setRx p r).chan x = s.chan x := by cases p <;> rfl

/-! ### What the updates of a channel make of the channels -/

@[simp] theorem State.setChan_chan (s : State) (c x : ChanId) (ch : Channel) :
    (s.setChan c ch).chan x = if x = c then ch else s.chan x := by
  unfold State.setChan State.chan
  by_cases h : x = c
  · subst h; simp
  · have : c.val ≠ x.val := fun e => h (Fin.ext e.symm)
    simp [h, this]

@[simp] theorem State.modChan_chan (s : State) (c x : ChanId) (f : Channel → Channel) :
    (s.modChan c f).chan x = if x = c then f (s.chan c) else s.chan x := State.setChan_chan s c x _

@[simp] theorem State.modTrack_chan (s : State) (c x : ChanId) (f : Tracking → Tracking) :
    (s.modTrack c f).chan x = if x = c then { s.chan c with track := f (s.chan c).track } else s.chan x :=
  State.modChan_chan s c x _

@[simp] theorem State.modAcct_chan (s : State) (c x : ChanId) (f : Accounts → Accounts) :
    (s.modAcct c f).chan x = if x = c then { s.chan c with acct := f (s.chan c).acct } else s.chan x :=
  State.modChan_chan s c x _

@[simp] theorem State.modSeq_chan (s : State) (c x : ChanId) (f : Sequencing → Sequencing) :
    (s.modSeq c f).chan x = if x = c then { s.chan c with seq := f (s.chan c).seq } else s.chan x :=
  State.modChan_chan s c x _

@[simp] theorem State.modSp_chan (s : State) (c x : ChanId) (f : Setpoint → Setpoint) :
    (s.modSp c f).chan x = if x = c then { s.chan c with sp := f (s.chan c).sp } else s.chan x :=
  State.modChan_chan s c x _

@[simp] theorem State.modSup_chan (s : State) (c x : ChanId) (f : Supervision → Supervision) :
    (s.modSup c f).chan x = if x = c then { s.chan c with sup := f (s.chan c).sup } else s.chan x :=
  State.modChan_chan s c x _

@[simp] theorem State.changeState_chan (s : State) (c x : ChanId) (n : ChState) (r : Reason) :
    (s.changeState c n r).chan x = if x = c then { s.chan c with state := n } else s.chan x := by
  unfold State.changeState; simp

@[simp] theorem State.enterFault_chan (s : State) (c x : ChanId) (e : FaultEntry) :
    (s.enterFault c e).chan x =
      if x = c then
        { s.chan c with
          sup := { (s.chan c).sup with
            fault := (s.chan c).sup.fault.enter e (s.cfg c).mode ((s.chan c).seq.selector, (s.chan c).seq.index)
              s.timeBase } }
      else s.chan x := State.modSup_chan s c x _

@[simp] theorem State.giveUp_chan (s : State) (c x : ChanId) :
    (s.giveUp c).chan x =
      if x = c then { s.chan c with seq := { (s.chan c).seq.cease .transition with stepCopy := none } }
      else s.chan x := by
  unfold State.giveUp; simp

/-- What an offer makes of the channels (R93, R98): nothing in shadow mode, and otherwise only that channel's slot meets
the frame. -/
theorem State.offerFrame_chan (s : State) (c x : ChanId) (k : SpCommand) (i : Int) (m : Bool) :
    (s.offerFrame c k i m).chan x =
      if x = c ∧ (s.cfg c).shadow = false then
        { s.chan c with
          sp := (s.chan c).sp.offer
            { stage := (s.cfg c).stage, command := k, current := i, rep := m, final := false } s.nextSince }
      else s.chan x := by
  unfold State.offerFrame
  cases hs : (s.cfg c).shadow
  · by_cases h : x = c
    · subst h; simp [State.chan]
    · have : c.val ≠ x.val := fun e => h (Fin.ext e.symm)
      simp [State.chan, h, this]
  · simp

theorem State.offerZero_chan (s : State) (c x : ChanId) :
    (s.offerZero c).chan x =
      if x = c ∧ (s.cfg c).shadow = false then
        { s.chan c with
          sp := (s.chan c).sp.offer
            { stage := (s.cfg c).stage, command := .zero, current := 0, rep := false, final := false } s.nextSince }
      else s.chan x := State.offerFrame_chan s c x _ _ _

theorem State.offerOpen_chan (s : State) (c x : ChanId) :
    (s.offerOpen c).chan x =
      if x = c ∧ (s.cfg c).shadow = false then
        { s.chan c with
          sp := (s.chan c).sp.offer
            { stage := (s.cfg c).stage, command := .openPath, current := 0, rep := false, final := false }
            s.nextSince }
      else s.chan x := State.offerFrame_chan s c x _ _ _

@[simp] theorem State.offerFrame_chan_state (s : State) (c x : ChanId) (k : SpCommand) (i : Int) (m : Bool) :
    ((s.offerFrame c k i m).chan x).state = (s.chan x).state := by
  rw [State.offerFrame_chan]; split <;> simp_all

@[simp] theorem State.offerFrame_chan_track (s : State) (c x : ChanId) (k : SpCommand) (i : Int) (m : Bool) :
    ((s.offerFrame c k i m).chan x).track = (s.chan x).track := by
  rw [State.offerFrame_chan]; split <;> simp_all

@[simp] theorem State.offerFrame_chan_acct (s : State) (c x : ChanId) (k : SpCommand) (i : Int) (m : Bool) :
    ((s.offerFrame c k i m).chan x).acct = (s.chan x).acct := by
  rw [State.offerFrame_chan]; split <;> simp_all

@[simp] theorem State.offerFrame_chan_seq (s : State) (c x : ChanId) (k : SpCommand) (i : Int) (m : Bool) :
    ((s.offerFrame c k i m).chan x).seq = (s.chan x).seq := by
  rw [State.offerFrame_chan]; split <;> simp_all

@[simp] theorem State.offerFrame_chan_sup (s : State) (c x : ChanId) (k : SpCommand) (i : Int) (m : Bool) :
    ((s.offerFrame c k i m).chan x).sup = (s.chan x).sup := by
  rw [State.offerFrame_chan]; split <;> simp_all

@[simp] theorem State.offerFrame_chan_sp (s : State) (c x : ChanId) (k : SpCommand) (i : Int) (m : Bool) :
    ((s.offerFrame c k i m).chan x).sp =
      if x = c ∧ (s.cfg c).shadow = false then
        (s.chan c).sp.offer
          { stage := (s.cfg c).stage, command := k, current := i, rep := m, final := false } s.nextSince
      else (s.chan x).sp := by
  rw [State.offerFrame_chan]; split <;> simp_all

@[simp] theorem State.offerZero_chan_state (s : State) (c x : ChanId) :
    ((s.offerZero c).chan x).state = (s.chan x).state := by
  rw [State.offerZero_chan]; split <;> simp_all

@[simp] theorem State.offerZero_chan_track (s : State) (c x : ChanId) :
    ((s.offerZero c).chan x).track = (s.chan x).track := by
  rw [State.offerZero_chan]; split <;> simp_all

@[simp] theorem State.offerZero_chan_acct (s : State) (c x : ChanId) :
    ((s.offerZero c).chan x).acct = (s.chan x).acct := by
  rw [State.offerZero_chan]; split <;> simp_all

@[simp] theorem State.offerZero_chan_seq (s : State) (c x : ChanId) :
    ((s.offerZero c).chan x).seq = (s.chan x).seq := by
  rw [State.offerZero_chan]; split <;> simp_all

@[simp] theorem State.offerZero_chan_sup (s : State) (c x : ChanId) :
    ((s.offerZero c).chan x).sup = (s.chan x).sup := by
  rw [State.offerZero_chan]; split <;> simp_all

@[simp] theorem State.offerZero_chan_sp (s : State) (c x : ChanId) :
    ((s.offerZero c).chan x).sp =
      if x = c ∧ (s.cfg c).shadow = false then
        (s.chan c).sp.offer
          { stage := (s.cfg c).stage, command := .zero, current := 0, rep := false, final := false } s.nextSince
      else (s.chan x).sp := by
  rw [State.offerZero_chan]; split <;> simp_all

@[simp] theorem State.offerOpen_chan_state (s : State) (c x : ChanId) :
    ((s.offerOpen c).chan x).state = (s.chan x).state := by
  rw [State.offerOpen_chan]; split <;> simp_all

@[simp] theorem State.offerOpen_chan_track (s : State) (c x : ChanId) :
    ((s.offerOpen c).chan x).track = (s.chan x).track := by
  rw [State.offerOpen_chan]; split <;> simp_all

@[simp] theorem State.offerOpen_chan_acct (s : State) (c x : ChanId) :
    ((s.offerOpen c).chan x).acct = (s.chan x).acct := by
  rw [State.offerOpen_chan]; split <;> simp_all

@[simp] theorem State.offerOpen_chan_seq (s : State) (c x : ChanId) :
    ((s.offerOpen c).chan x).seq = (s.chan x).seq := by
  rw [State.offerOpen_chan]; split <;> simp_all

@[simp] theorem State.offerOpen_chan_sup (s : State) (c x : ChanId) :
    ((s.offerOpen c).chan x).sup = (s.chan x).sup := by
  rw [State.offerOpen_chan]; split <;> simp_all

@[simp] theorem State.offerOpen_chan_sp (s : State) (c x : ChanId) :
    ((s.offerOpen c).chan x).sp =
      if x = c ∧ (s.cfg c).shadow = false then
        (s.chan c).sp.offer
          { stage := (s.cfg c).stage, command := .openPath, current := 0, rep := false, final := false } s.nextSince
      else (s.chan x).sp := by
  rw [State.offerOpen_chan]; split <;> simp_all

@[simp] theorem State.offerFrame_nextSince (s : State) (c : ChanId) (k : SpCommand) (i : Int) (m : Bool) :
    (s.offerFrame c k i m).nextSince = if (s.cfg c).shadow then s.nextSince else s.nextSince + 1 := by
  unfold State.offerFrame; split <;> rfl

@[simp] theorem State.joinFetch_fetchQueue (s : State) (c : ChanId) :
    (s.joinFetch c).fetchQueue = s.fetchQueue ++ [c] := rfl

@[simp] theorem State.leaveFetch_fetchQueue (s : State) (c : ChanId) :
    (s.leaveFetch c).fetchQueue = s.fetchQueue.filter (fun d => d != c) := rfl

@[simp] theorem State.leaveFetch_port (s : State) (c : ChanId) : (s.leaveFetch c).port = s.port.abandon c := rfl

@[simp] theorem State.giveUp_fetchQueue (s : State) (c : ChanId) :
    (s.giveUp c).fetchQueue = s.fetchQueue.filter (fun d => d != c) := rfl

@[simp] theorem State.giveUp_port (s : State) (c : ChanId) : (s.giveUp c).port = s.port.abandon c := rfl

@[simp] theorem State.placeAnswer_requests (s : State) (r : Request) (st : Status) (l : List Byte) :
    (s.placeAnswer r st l).requests = s.requests.tail := rfl

@[simp] theorem State.placeAnswer_job (s : State) (r : Request) (st : Status) (l : List Byte) :
    (s.placeAnswer r st l).job = none := rfl

@[simp] theorem State.placeAnswer_answers (s : State) (r : Request) (st : Status) (l : List Byte) :
    (s.placeAnswer r st l).answers =
      s.answers ++ [{ tag := r.tag, code := r.code, status := st, results := l, resets := false }] := rfl

@[simp] theorem State.countLink_link (s : State) (f : LinkCounters → LinkCounters) : (s.countLink f).link = f s.link := rfl

@[simp] theorem State.setRx_rx_self (s : State) (p : Port) (r : RxState) : (s.setRx p r).rx p = r := by
  cases p <;> rfl

end Sys2Proof.Machine
end

