-- ==== Sys2Proof/Laws/After.lean ====
section
/-! SUPPORT. Every shared operation on one channel says once what it does, as a State.after: the channel's new value, how
many frames its slot was offered and which records were produced. Two of them in a row are one (State.after_after), so what
an event does to a channel comes out as a single State.after, by simp with the lemmas named *_eq_after. -/

namespace Sys2Proof.Machine

open Sys2Proof

/-! ### Records offered one after another -/

/-- The records of an event offered one after another. -/
def State.produceAll (s : State) (c : ChanId) (l : List Body) : State := l.foldl (fun s b => s.produce c b) s

theorem State.produceAll_with (s : State) (c : ChanId) (l : List Body) (x : Vector Channel 32) (n : Nat) :
    State.produceAll { s with channels := x, nextSince := n } c l =
      { s.produceAll c l with channels := x, nextSince := n } := by
  induction l generalizing s with
  | nil => rfl
  | cons b l ih => exact ih (s.produce c b)

/-- Records change the report queue and the drop count only. -/
theorem State.produceAll_eq (s : State) (c : ChanId) (l : List Body) :
    s.produceAll c l =
      { s with reports := (s.produceAll c l).reports, dropCount := (s.produceAll c l).dropCount } := by
  induction l generalizing s with
  | nil => rfl
  | cons b l ih =>
    show (s.produce c b).produceAll c l = _
    rw [ih (s.produce c b)]
    rfl

theorem State.produceAll_append (s : State) (c : ChanId) (l k : List Body) :
    s.produceAll c (l ++ k) = (s.produceAll c l).produceAll c k := List.foldl_append

/-! ### The fields of State.after -/

theorem State.after_eq (s : State) (c : ChanId) (ch : Channel) (n : Nat) (l : List Body) :
    s.after c ch n l =
      { s with
        reports := (s.produceAll c l).reports, dropCount := (s.produceAll c l).dropCount
        channels := s.channels.set c.val ch
        nextSince := if (s.cfg c).shadow then s.nextSince else s.nextSince + n } := by
  show ({ s.produceAll c l with
    channels := s.channels.set c.val ch
    nextSince := if (s.cfg c).shadow then s.nextSince else s.nextSince + n } : State) = _
  rw [State.produceAll_eq]

@[simp] theorem State.after_chan_self (s : State) (c : ChanId) (ch : Channel) (n : Nat) (l : List Body) :
    (s.after c ch n l).chan c = ch := by
  simp [State.after_eq, State.chan]

@[simp] theorem State.after_chan (s : State) (c d : ChanId) (ch : Channel) (n : Nat) (l : List Body) (h : d ≠ c) :
    (s.after c ch n l).chan d = s.chan d := by
  have : c.val ≠ d.val := fun e => h (Fin.ext e.symm)
  simp [State.after_eq, State.chan, this]

@[simp] theorem State.after_cfg (s : State) (c d : ChanId) (ch : Channel) (n : Nat) (l : List Body) :
    (s.after c ch n l).cfg d = s.cfg d := by rw [State.after_eq]; rfl
@[simp] theorem State.after_limits (s : State) (c d : ChanId) (ch : Channel) (n : Nat) (l : List Body) :
    (s.after c ch n l).limits d = s.limits d := by rw [State.after_eq]; rfl
@[simp] theorem State.after_timeBase (s : State) (c : ChanId) (ch : Channel) (n : Nat) (l : List Body) :
    (s.after c ch n l).timeBase = s.timeBase := by rw [State.after_eq]
@[simp] theorem State.after_tickIn (s : State) (c : ChanId) (ch : Channel) (n x : Nat) (l : List Body) :
    (s.after c ch n l).tickIn x = s.tickIn x := by rw [State.after_eq]; rfl
@[simp] theorem State.after_engine (s : State) (c : ChanId) (ch : Channel) (n : Nat) (l : List Body) :
    (s.after c ch n l).engine = s.engine := by rw [State.after_eq]
@[simp] theorem State.after_fetchQueue (s : State) (c : ChanId) (ch : Channel) (n : Nat) (l : List Body) :
    (s.after c ch n l).fetchQueue = s.fetchQueue := by rw [State.after_eq]
@[simp] theorem State.after_port (s : State) (c : ChanId) (ch : Channel) (n : Nat) (l : List Body) :
    (s.after c ch n l).port = s.port := by rw [State.after_eq]
@[simp] theorem State.after_requests (s : State) (c : ChanId) (ch : Channel) (n : Nat) (l : List Body) :
    (s.after c ch n l).requests = s.requests := by rw [State.after_eq]
@[simp] theorem State.after_answers (s : State) (c : ChanId) (ch : Channel) (n : Nat) (l : List Body) :
    (s.after c ch n l).answers = s.answers := by rw [State.after_eq]
@[simp] theorem State.after_job (s : State) (c : ChanId) (ch : Channel) (n : Nat) (l : List Body) :
    (s.after c ch n l).job = s.job := by rw [State.after_eq]
@[simp] theorem State.after_nextSince (s : State) (c : ChanId) (ch : Channel) (n : Nat) (l : List Body) :
    (s.after c ch n l).nextSince = if (s.cfg c).shadow then s.nextSince else s.nextSince + n := by
  rw [State.after_eq]
@[simp] theorem State.after_profileDesc (s : State) (c : ChanId) (ch : Channel) (n x : Nat) (l : List Body) :
    (s.after c ch n l).profileDesc x = s.profileDesc x := by rw [State.after_eq]; rfl
@[simp] theorem State.after_programDesc (s : State) (c : ChanId) (ch : Channel) (n x : Nat) (l : List Body) :
    (s.after c ch n l).programDesc x = s.programDesc x := by rw [State.after_eq]; rfl
@[simp] theorem State.after_segment (s : State) (c : ChanId) (ch : Channel) (n : Nat) (l : List Body) :
    (s.after c ch n l).segment = s.segment := by rw [State.after_eq]; rfl

/-! ### One event after another -/

theorem State.after_after (s : State) (c : ChanId) (a b : Channel) (n m : Nat) (l k : List Body) :
    (s.after c a n l).after c b m k = s.after c b (n + m) (l ++ k) := by
  have h : ∀ (x : Vector Channel 32) (y : Nat),
      (({ s.produceAll c l with channels := x, nextSince := y } : State).produceAll c k) =
        { s.produceAll c (l ++ k) with channels := x, nextSince := y } := by
    intro x y
    rw [State.produceAll_with, State.produceAll_append]
  have hc : (s.after c a n l).cfg c = s.cfg c := State.after_cfg ..
  show ({ (s.after c a n l).produceAll c k with
    channels := (s.after c a n l).channels.set c.val b
    nextSince := if ((s.after c a n l).cfg c).shadow then (s.after c a n l).nextSince
      else (s.after c a n l).nextSince + m } : State) = _
  rw [hc]
  show ({ (({ s.produceAll c l with
      channels := s.channels.set c.val a
      nextSince := if (s.cfg c).shadow then s.nextSince else s.nextSince + n } : State).produceAll c k) with
    channels := (s.channels.set c.val a).set c.val b
    nextSince := if (s.cfg c).shadow then (if (s.cfg c).shadow then s.nextSince else s.nextSince + n)
      else (if (s.cfg c).shadow then s.nextSince else s.nextSince + n) + m } : State) = _
  rw [h]
  cases hs : (s.cfg c).shadow <;>
    simp [State.after, State.produceAll, hs, Vector.set_set, Nat.add_assoc]

@[simp] theorem State.after_stateBody (s : State) (c : ChanId) (ch : Channel) (n : Nat) (l : List Body)
    (old new : ChState) (lv : Level) (r : Reason) :
    (s.after c ch n l).stateBody c old new lv r = s.stateBody c old new lv r := by
  unfold State.stateBody; rw [State.after_cfg]

@[simp] theorem State.after_entered (s : State) (c : ChanId) (ch : Channel) (n : Nat) (l : List Body) (e : FaultEntry) :
    (s.after c ch n l).entered c e =
      ch.sup.fault.enter e (s.cfg c).mode (ch.seq.selector, ch.seq.index) s.timeBase := by
  unfold State.entered; rw [State.after_cfg, State.after_chan_self, State.after_timeBase]

@[simp] theorem State.after_faultBodyOf (s : State) (c : ChanId) (ch : Channel) (n : Nat) (l : List Body)
    (e : FaultEntry) (a : FaultAction) :
    (s.after c ch n l).faultBodyOf c e a =
      .fault
        { cause := e.lead, action := a, selector := ch.seq.selector, index := ch.seq.index,
          v := (e.vi.map (·.1)).getD 0, i := (e.vi.map (·.2)).getD 0, t := e.t } := by
  unfold State.faultBodyOf; rw [State.after_chan_self]

@[simp] theorem State.after_tripState (s : State) (c : ChanId) (ch : Channel) (n : Nat) (l : List Body) :
    (s.after c ch n l).tripState c = s.tripState c := by
  unfold State.tripState; rw [State.after_cfg]

/-- An offer of `current` under `cmd` to the slot of `ch`. -/
theorem State.after_slot (s : State) (c : ChanId) (ch : Channel) (n k : Nat) (l : List Body) (cmd : SpCommand)
    (current : Int) :
    (s.after c ch n l).slot c cmd current k =
      if (s.cfg c).shadow then ch.sp
      else ch.sp.offer { stage := (s.cfg c).stage, command := cmd, current := current, rep := false, final := false } k := by
  unfold State.slot; rw [State.after_cfg, State.after_chan_self]

/-! ### What each operation does -/

/-- An event that changes nothing. -/
theorem State.after_nothing (s : State) (c : ChanId) : s.after c (s.chan c) 0 [] = s := by
  rw [State.after_eq]
  cases s
  simp [State.chan, State.produceAll]

theorem State.setChan_eq_after (s : State) (c : ChanId) (ch : Channel) : s.setChan c ch = s.after c ch 0 [] := by
  simp [State.after_eq, State.setChan, State.produceAll]

theorem State.modChan_eq_after (s : State) (c : ChanId) (f : Channel → Channel) :
    s.modChan c f = s.after c (f (s.chan c)) 0 [] := State.setChan_eq_after ..

theorem State.modTrack_eq_after (s : State) (c : ChanId) (f : Tracking → Tracking) :
    s.modTrack c f = s.after c { s.chan c with track := f (s.chan c).track } 0 [] := State.modChan_eq_after ..

theorem State.modAcct_eq_after (s : State) (c : ChanId) (f : Accounts → Accounts) :
    s.modAcct c f = s.after c { s.chan c with acct := f (s.chan c).acct } 0 [] := State.modChan_eq_after ..

theorem State.modSeq_eq_after (s : State) (c : ChanId) (f : Sequencing → Sequencing) :
    s.modSeq c f = s.after c { s.chan c with seq := f (s.chan c).seq } 0 [] := State.modChan_eq_after ..

theorem State.modSp_eq_after (s : State) (c : ChanId) (f : Setpoint → Setpoint) :
    s.modSp c f = s.after c { s.chan c with sp := f (s.chan c).sp } 0 [] := State.modChan_eq_after ..

theorem State.modSup_eq_after (s : State) (c : ChanId) (f : Supervision → Supervision) :
    s.modSup c f = s.after c { s.chan c with sup := f (s.chan c).sup } 0 [] := State.modChan_eq_after ..

theorem State.produce_eq_after (s : State) (c : ChanId) (b : Body) : s.produce c b = s.after c (s.chan c) 0 [b] := by
  rw [State.after_eq]
  simp [State.produceAll, State.produce, State.chan]

theorem State.stateRecord_eq_after (s : State) (c : ChanId) (old : ChState) (r : Reason) :
    s.stateRecord c old r =
      s.after c (s.chan c) 0 (s.stateBody c old (s.chan c).state (s.chan c).sup.level r) := by
  unfold State.stateRecord State.stateBody
  split
  · rw [State.produce_eq_after]
  · rw [State.after_nothing]

theorem State.changeState_eq_after (s : State) (c : ChanId) (new : ChState) (r : Reason) :
    s.changeState c new r =
      s.after c { s.chan c with state := new } 0
        (s.stateBody c (s.chan c).state new (s.chan c).sup.level r) := by
  unfold State.changeState
  rw [State.stateRecord_eq_after, State.modChan_eq_after, State.after_after]
  simp

theorem State.offerFrame_eq_after (s : State) (c : ChanId) (cmd : SpCommand) (current : Int) :
    s.offerFrame c cmd current false =
      s.after c { s.chan c with sp := s.slot c cmd current s.nextSince } 1 [] := by
  unfold State.slot
  cases hs : (s.cfg c).shadow
  · simp [State.after_eq, State.offerFrame, State.produceAll, hs]
  · simp only [State.offerFrame, hs, if_true]
    have h := State.after_nothing s c
    rw [State.after_eq] at h ⊢
    simpa only [hs, if_true] using h.symm

theorem State.offerZero_eq_after (s : State) (c : ChanId) :
    s.offerZero c = s.after c { s.chan c with sp := s.slot c .zero 0 s.nextSince } 1 [] :=
  State.offerFrame_eq_after ..

theorem State.offerOpen_eq_after (s : State) (c : ChanId) :
    s.offerOpen c = s.after c { s.chan c with sp := s.slot c .openPath 0 s.nextSince } 1 [] :=
  State.offerFrame_eq_after ..

theorem State.enterFault_eq_after (s : State) (c : ChanId) (e : FaultEntry) :
    s.enterFault c e =
      s.after c { s.chan c with sup := { (s.chan c).sup with fault := s.entered c e } } 0 [] :=
  State.modSup_eq_after ..

theorem State.faultRecord_eq_after (s : State) (c : ChanId) (e : FaultEntry) (a : FaultAction) :
    s.faultRecord c e a = s.after c (s.chan c) 0 [s.faultBodyOf c e a] := State.produce_eq_after ..

theorem State.stepEnd_eq_after (s : State) (c : ChanId) (cause : EndCause) (v : Nat) (i : Int) (t : Option Int) :
    s.stepEnd c cause v i t = s.after c (s.chan c) 0 (s.stepEndBodies c cause v i t) := by
  unfold State.stepEnd State.stepEndBodies
  cases (s.chan c).seq.stepCopy with
  | none => simp only; rw [State.after_nothing]
  | some r =>
    simp only
    split
    · rw [State.produce_eq_after]
    · rw [State.after_nothing]

theorem State.accountDelivery_eq_after (s : State) (c : ChanId) (d : Delivery) :
    s.accountDelivery c d =
      s.after c { s.chan c with acct := (s.chan c).acct.account (s.chan c).state d (s.cfg c).period } 0 [] :=
  State.modAcct_eq_after ..

/-! ### The step fetch queue stands outside -/

theorem State.leaveFetch_after (s : State) (c : ChanId) (ch : Channel) (n : Nat) (l : List Body) :
    (s.leaveFetch c).after c ch n l = (s.after c ch n l).leaveFetch c := by
  rw [State.after_eq, State.after_eq]
  unfold State.leaveFetch
  have : State.produceAll { s with
      fetchQueue := s.fetchQueue.filter (fun d => d != c), port := s.port.abandon c } c l =
      { s.produceAll c l with
        fetchQueue := s.fetchQueue.filter (fun d => d != c), port := s.port.abandon c } := by
    induction l generalizing s with
    | nil => rfl
    | cons b l ih => exact ih (s.produce c b)
  rw [this]
  rfl

end Sys2Proof.Machine
end

