-- ==== Sys2Proof/Laws/Units.lean ====
section
/-! SUPPORT. What the operations of the sequencer, the supervisor and the setpoint unit do to a channel, each as one
State.after (Sys2Proof/Laws/After.lean). -/

namespace Sys2Proof.Machine

open Sys2Proof

/-- The beginning of a transition, before the channel waits for its fetch (R61). -/
theorem State.openTransition_eq_after (s : State) (c : ChanId) (i : Nat) (hp : Option HoldKind) :
    s.openTransition c i hp = s.after c ((s.chan c).begun i hp (s.slot c .zero 0 s.nextSince)) 1 [] := by
  unfold State.openTransition
  rw [State.modSeq_eq_after, State.offerZero_eq_after, State.modChan_eq_after, State.after_after, State.after_after]
  simp [Channel.begun, Accounts.resetStep, State.slot]

theorem State.beginTransition_eq_after (s : State) (c : ChanId) (i : Nat) (hp : Option HoldKind) :
    s.beginTransition c i hp =
      { s.after c ((s.chan c).begun i hp (s.slot c .zero 0 s.nextSince)) 1 [] with
        fetchQueue := s.fetchQueue ++ [c] } := by
  unfold State.beginTransition
  rw [State.openTransition_eq_after]
  simp [State.joinFetch]

/-- A program fault (R71, R121). -/
theorem State.programFault_eq_after (s : State) (c : ChanId) (f : Cause) :
    s.programFault c f =
      s.after c
        { s.chan c with
          state := .held, seq := (s.chan c).seq.dropped (s.chan c).seq.stepCopy .fault
          sup := { (s.chan c).sup with fault := s.entered c (FaultEntry.bare f) }
          sp := s.slot c .zero 0 s.nextSince }
        1 (s.faultBodyOf c (FaultEntry.bare f) .programFault ::
          s.stateBody c (s.chan c).state .held (s.chan c).sup.level .programFault) := by
  unfold State.programFault
  simp only [State.modSeq_eq_after, State.enterFault_eq_after, State.faultRecord_eq_after, State.offerZero_eq_after,
    State.changeState_eq_after, State.after_after]
  simp [Sequencing.dropped, Sequencing.cease, State.slot, State.entered, State.faultBodyOf]

/-- A trip (R113). -/
theorem State.trip_eq_after (s : State) (c : ChanId) (e : FaultEntry) (r : Reason) :
    s.trip c e r =
      (s.after c (s.tripped c e s.nextSince) 1
        (s.faultBodyOf c e .trip ::
          s.stateBody c (s.chan c).state (s.tripState c) (s.chan c).sup.level r)).leaveFetch c := by
  unfold State.trip State.giveUp
  simp only [State.modSeq_eq_after, State.enterFault_eq_after, State.faultRecord_eq_after, State.offerOpen_eq_after,
    State.modSup_eq_after, State.changeState_eq_after, State.leaveFetch_after, State.after_after]
  cases h : (s.cfg c).policy <;>
    simp [Sequencing.dropped, Sequencing.cease, State.slot, State.entered, State.faultBodyOf, State.tripped,
      State.tripState, State.stateBody, h]

/-- A fault recorded without a trip (R114, R115). -/
theorem State.recordOnly_eq_after (s : State) (c : ChanId) (e : FaultEntry) :
    s.recordOnly c e =
      s.after c { s.chan c with sup := { (s.chan c).sup with fault := s.entered c e } } 0
        [s.faultBodyOf c e .recordOnly] := by
  unfold State.recordOnly
  rw [State.faultRecord_eq_after, State.enterFault_eq_after, State.after_after]
  simp [State.faultBodyOf]

/-- A hard kind met in ISOLATED (R114, R115). -/
theorem State.isolatedFault_eq_after (s : State) (c : ChanId) (e : FaultEntry) :
    s.isolatedFault c e =
      s.after c
        { s.chan c with sup := { (s.chan c).sup with recovery := 0, hardMark := true, fault := s.entered c e } } 0 [] := by
  unfold State.isolatedFault
  rw [State.modSup_eq_after, State.enterFault_eq_after, State.after_after]
  simp

/-- A score update (R109, R110). -/
theorem State.setScore_eq_after (s : State) (c : ChanId) (n : Nat) :
    s.setScore c n =
      s.after c { s.chan c with sup := { (s.chan c).sup with score := n, level := band n } } 0
        (if band n = (s.chan c).sup.level then []
         else s.stateBody c (s.chan c).state (s.chan c).state (band n) .level) := by
  unfold State.setScore
  simp only [State.modSup_eq_after, State.stateRecord_eq_after, State.after_after]
  split <;> simp

/-- The setpoint stage of an evaluation (R86). -/
theorem State.emitRun_eq_after (s : State) (c : ChanId) (r : StepRecord) (d : Delivery) (x reg cur : Int)
    (hr : reg = evalR (s.chan c) r d.v x) (hc : cur = emitted (s.chan c).sup.level reg) :
    s.emitRun c r d x =
      s.after c
        { s.chan c with
          seq := { (s.chan c).seq with phase := evalPhase r reg (s.chan c).seq.phase }
          sp := { s.slot c .run cur s.nextSince with regulator := reg } }
        1 [] := by
  subst hc hr
  unfold State.emitRun
  rw [State.offerFrame_eq_after, State.modChan_eq_after, State.after_after, State.after_slot]
  cases hs : (s.cfg c).shadow
  · cases hp : (s.chan c).sp.pending with
    | none => simp [State.slot, hs, Setpoint.offer, hp]
    | some p => cases hk : p.command <;> simp [State.slot, hs, Setpoint.offer, hp, hk]
  · simp [State.slot, hs]

/-- The end of a transition at a drive record with hold-pending set (R65). -/
theorem State.holdAtDrive_eq_after (s : State) (c : ChanId) (h : HoldKind) :
    s.holdAtDrive c h =
      s.after c
        { s.chan c with
          state := .held
          seq := { (s.chan c).seq with
            stepCopy := none, inFlight := false, chain := 0, resume := .transition, pendingEval := none,
            holdPending := none }
          sp := s.slot c .zero 0 s.nextSince }
        1 (s.stateBody c (s.chan c).state .held (s.chan c).sup.level
          (match h with
           | .command => .command
           | .program => .programHold)) := by
  unfold State.holdAtDrive
  rw [State.changeState_eq_after, State.offerZero_eq_after, State.modSeq_eq_after, State.after_after, State.after_after]
  cases h <;> simp [State.slot]

/-- An END record (R70). -/
theorem State.doEnd_eq_after (s : State) (c : ChanId) :
    s.doEnd c =
      s.after c
        { s.chan c with
          state := .complete
          seq := { (s.chan c).seq with
            stack := [], inFlight := false, holdPending := none, resume := .none, chain := 0, pendingEval := none } }
        0 (s.stateBody c (s.chan c).state .complete (s.chan c).sup.level .endProgram) := by
  unfold State.doEnd
  rw [State.changeState_eq_after, State.modSeq_eq_after, State.after_after]
  simp

/-- A transition that goes on at another position (R65). -/
theorem State.continueAt_eq_after (s : State) (c : ChanId) (f : Sequencing → Sequencing) :
    s.continueAt c f =
      { s.after c { s.chan c with seq := f (s.chan c).seq } 0 [] with fetchQueue := s.fetchQueue ++ [c] } := by
  unfold State.continueAt
  rw [State.modSeq_eq_after]
  simp [State.joinFetch]

/-- One cycle counted (R31, R67). -/
theorem State.countCycle_eq_after (s : State) (c : ChanId) (n : Nat)
    (h : n = satAdd Config.max32 (s.chan c).seq.cycleCount 1) :
    s.countCycle c =
      s.after c
        { s.chan c with
          acct := (s.chan c).acct.resetCycle, seq := { (s.chan c).seq with cycleCount := n } }
        0 [.cycleEnd (cycleEndBody (s.chan c).acct n)] := by
  subst h
  unfold State.countCycle
  simp only [State.modSeq_eq_after, State.produce_eq_after, State.modAcct_eq_after, State.after_after]
  simp

/-- The completion of a recovery (R117). -/
theorem State.recover_eq_after (s : State) (c : ChanId) (ch : Channel)
    (h : ch = { s.chan c with
      sup := { (s.chan c).sup with score := 0, level := .normal, recovery := 0, hardMark := false } }) :
    s.recover c =
      if (s.chan c).sup.hardMark = false ∧ ((s.cfg c).policy = .auto ∨ (s.cfg c).policy = .controller) then
        { s.after c
          (({ ch with state := .running } : Channel).begun (s.chan c).seq.index none (s.slot c .zero 0 s.nextSince))
          1 (s.stateBody c (s.chan c).state .running .normal .recovered) with fetchQueue := s.fetchQueue ++ [c] }
      else s.after c { ch with state := .held } 0 (s.stateBody c (s.chan c).state .held .normal .recovered) := by
  subst h
  unfold State.recover
  simp only [State.modSup_eq_after, State.changeState_eq_after, State.beginTransition_eq_after, State.after_after,
    State.after_slot, State.after_chan_self, State.after_stateBody, State.after_nextSince, State.after_fetchQueue]
  cases hp : (s.cfg c).policy <;> cases hm : (s.chan c).sup.hardMark <;> simp [State.slot, Channel.begun]

end Sys2Proof.Machine
end

