-- ==== Sys2Proof/Laws/Events.lean ====
section
/-! SUPPORT. When a command is taken at once (State.attends), when a request is executed (State.executes), and what is left of
the due work once it has been started. -/

namespace Sys2Proof.Machine

open Sys2Proof

/-! ### Nothing due -/

theorem State.dueRequest_of_quiet {s : State} (h : s.quiet = true) : s.dueRequest = none := by
  simp only [State.quiet, Bool.and_eq_true, Option.isNone_iff_eq_none] at h
  exact h.1

theorem State.dueAccess_of_quiet {s : State} (h : s.quiet = true) : s.dueAccess = none := by
  simp only [State.quiet, Bool.and_eq_true, Option.isNone_iff_eq_none] at h
  exact h.2

theorem State.runDue_of_none {s : State} (h : s.dueRequest = none) : s.runDue = s := by
  simp [State.runDue, h]

theorem State.settleRequests_of_none {s : State} (h : s.dueRequest = none) : s.settleRequests = s := by
  simp [State.settleRequests, State.runDue_of_none h]

theorem State.settle_of_none {s : State} (h : s.dueRequest = none) (ha : s.dueAccess = none) : s.settle = s := by
  simp [State.settle, State.portDue, State.runDue_of_none h, ha]

theorem State.settle_of_quiet {s : State} (h : s.quiet = true) : s.settle = s :=
  State.settle_of_none (State.dueRequest_of_quiet h) (State.dueAccess_of_quiet h)

/-- An event of an attending engine acts on the state as it stands. -/
theorem State.event_of_attends {s : State} (h : s.attends) (f : State → State) : s.event f = f s := by
  simp [State.event, State.inReset, h.1, State.settle_of_quiet h.2]

/-- An event meets no due work. -/
theorem State.event_of_none {s : State} (hr : s.resetN = true) (h : s.dueRequest = none) (ha : s.dueAccess = none)
    (f : State → State) : s.event f = f s := by
  simp [State.event, State.inReset, hr, State.settle_of_none h ha]

/-- No request is due while one is in execution. -/
theorem State.dueRequest_of_job {s : State} {j : TableJob} (h : s.job = some j) : s.dueRequest = none := by
  simp [State.dueRequest, h]

/-- No access is due while the port is busy. -/
theorem State.dueAccess_of_busy {s : State} (h : s.port ≠ .free) : s.dueAccess = none := by
  have : (s.port == PortState.free) = false := by simpa using h
  simp [State.dueAccess, this]

/-- While RESET_N is low nothing is due. -/
theorem State.quiet_of_reset {s : State} (h : s.resetN = false) : s.quiet = true := by
  simp [State.quiet, State.dueRequest, State.dueAccess, h]

/-! ### A request in its turn -/

theorem State.dueRequest_of_executes {s : State} {r : Request} {rest : List Request} (h : s.executes r rest) :
    s.dueRequest = some r := by
  obtain ⟨h1, h2, h3, h4, h5, h6⟩ := h
  simp [State.dueRequest, h1, h2, h3, h4, h5, h6]

/-- The row of the due request executes it. -/
theorem execRow_of_executes {s : State} {r : Request} {rest : List Request} {row : RequestRow}
    {f : State → Request → State} (h : s.executes r rest) (hr : r.row = row) : execRow row f s = .next (f s r) := by
  simp [execRow, State.dueRequest_of_executes h, hr]

/-- Placing an answer in a state that differs from one that executes the request only where the request may write. -/
theorem State.placeAnswer_eq_answered {s : State} {r : Request} {rest : List Request} (st : Status) (l : List Byte)
    (hr : s.requests = r :: rest) (hj : s.job = none) : s.placeAnswer r st l = s.answered r rest st l := by
  simp [State.placeAnswer, State.answered, hr, ← hj]

theorem State.refuse_eq_answered {s : State} {r : Request} {rest : List Request} (st : Status)
    (h : s.executes r rest) : s.refuse r st = s.answered r rest st [] :=
  State.placeAnswer_eq_answered st [] h.2.2.2.2.2 h.2.2.1

/-- An answer placed after an event of one channel. -/
theorem State.after_placeAnswer {s : State} {r : Request} {rest : List Request} {c : ChanId} {ch : Channel} {n : Nat}
    {l : List Body} (st : Status) (x : List Byte) (h : s.executes r rest) :
    (s.after c ch n l).placeAnswer r st x = (s.after c ch n l).answered r rest st x :=
  State.placeAnswer_eq_answered _ _ ((State.after_requests ..).trans h.2.2.2.2.2) ((State.after_job ..).trans h.2.2.1)

/-- An answer placed after an event of one channel that also moved the step fetch queue and the port. -/
theorem State.after_with_placeAnswer {s : State} {r : Request} {rest : List Request} {c : ChanId} {ch : Channel} {n : Nat}
    {l : List Body} {q : List ChanId} {p : PortState} (st : Status) (x : List Byte) (h : s.executes r rest) :
    State.placeAnswer { s.after c ch n l with fetchQueue := q, port := p } r st x =
      ({ s.after c ch n l with fetchQueue := q, port := p } : State).answered r rest st x :=
  State.placeAnswer_eq_answered (s := { s.after c ch n l with fetchQueue := q, port := p }) _ _
    ((State.after_requests s c ch n l).trans h.2.2.2.2.2) ((State.after_job s c ch n l).trans h.2.2.1)

/-- An offer does not look at the sequence number of the next frame. -/
theorem Setpoint.offer_nextSeq (sp : Setpoint) (f : SpFrame) (n : Nat) (b : Byte) :
    ({ sp with nextSeq := b } : Setpoint).offer f n = { sp.offer f n with nextSeq := b } := by
  unfold Setpoint.offer
  cases hp : sp.pending with
  | none => rfl
  | some p => cases h : p.command <;> simp [h, hp]

/-- An offer does not look at the refresh timer. -/
theorem Setpoint.offer_refresh (sp : Setpoint) (f : SpFrame) (n : Nat) (x : Option Tick) :
    ({ sp with refresh := x } : Setpoint).offer f n = { sp.offer f n with refresh := x } := by
  unfold Setpoint.offer
  cases hp : sp.pending with
  | none => rfl
  | some p => cases h : p.command <;> simp [h, hp]

/-- A channel command of the right length for a channel in 0..31, its arguments in their ranges (R129, R165). -/
theorem State.runCommand_of_commands {s : State} {r : Request} {n : Nat} {act : State → ChanId → Status × State}
    {c : ChanId} (h : r.commands c n) :
    s.runCommand r n true act =
      (act s c).2.placeAnswer r (act s c).1 (commandLine r ((act s c).2.chan c).state) := by
  obtain ⟨h1, h2⟩ := h
  have h3 : u8At r.args 0 < 32 := by rw [h2]; exact c.isLt
  have h4 : (⟨u8At r.args 0, h3⟩ : ChanId) = c := Fin.ext h2
  simp [State.runCommand, h1, h3, h4, State.commandAnswer, State.commandResults, commandLine]

/-! ### The due work starts and is done with -/

/-- What decides whether a request is due is left alone by the table port. -/
theorem State.portDue_dueRequest (s : State) : s.portDue.dueRequest = s.dueRequest := by
  unfold State.portDue
  cases s.dueAccess with
  | none => rfl
  | some k =>
    cases k with
    | management => rfl
    | fetch => unfold State.startFetch; cases s.fetchQueue <;> rfl

end Sys2Proof.Machine
end

