-- ==== Sys2Proof/Laws/PerInstr.lean ====
section
/-! SUPPORT. What well-formedness says of each command, one lemma per row of the table: a frame whose reception completes has
a payload of at most 120 bytes, of exactly 8 for a SAMPLE and exactly 4 for a SETPOINT frame, and a header that is found
malformed breaks one of these bounds (R141). -/

namespace Sys2Proof.Laws.FrameBounds

open Sys2Proof

/-- The bounds that R141 sets to the payload length of a frame with this byte 0. -/
def InBounds (byte0 : Byte) (len : Nat) : Prop :=
  len ≤ 120 ∧ (frameKind byte0 = .sample → len = 8) ∧ (frameKind byte0 = .setpoint → len = 4)

/-- The header check fails exactly outside the bounds. -/
theorem headerMalformed_eq_false {byte0 : Byte} {len : Nat} : headerMalformed byte0 len = false ↔ InBounds byte0 len := by
  unfold headerMalformed InBounds
  cases h : frameKind byte0 <;> simp

/-- A well-formed command carries a frame within the bounds, or a header outside them, or neither. -/
def Statement (i : Instr) : Prop :=
  i.wf = true →
    (∀ f : Frame, i = .upFrameReceived f ∨ i = .dnFrameReceived f → InBounds f.byte0 f.payload.length) ∧
      ∀ (p : Port) (byte0 len : Byte), i = .malformedHeader p byte0 len → ¬ InBounds byte0 len.toNat

/-- A command that carries neither a frame nor a header. -/
theorem of_plain {i : Instr} (h1 : ∀ f, i ≠ .upFrameReceived f) (h2 : ∀ f, i ≠ .dnFrameReceived f)
    (h3 : ∀ p b l, i ≠ .malformedHeader p b l) : Statement i :=
  fun _ => ⟨fun f h => (h.elim (h1 f) (h2 f)).elim, fun p b l h => (h3 p b l h).elim⟩

theorem upFrameReceived (f : Frame) : Statement (.upFrameReceived f) := by
  intro h
  refine ⟨fun g hg => ?_, fun p b l hl => by simp at hl⟩
  have e : f = g := by simpa using hg
  subst e
  have hw : f.wf = true := h
  exact headerMalformed_eq_false.mp (by simpa [Frame.wf] using hw)

theorem dnFrameReceived (f : Frame) : Statement (.dnFrameReceived f) := by
  intro h
  refine ⟨fun g hg => ?_, fun p b l hl => by simp at hl⟩
  have e : f = g := by simpa using hg
  subst e
  have hw : f.wf = true := h
  exact headerMalformed_eq_false.mp (by simpa [Frame.wf] using hw)

theorem framingError (p : Port) (cause : FramingCause) : Statement (.framingError p cause) := of_plain (by simp) (by simp) (by simp)

theorem malformedHeader (p : Port) (byte0 len : Byte) : Statement (.malformedHeader p byte0 len) := by
  intro h
  refine ⟨fun g hg => by simp at hg, fun q b l hl hb => ?_⟩
  obtain ⟨rfl, rfl, rfl⟩ : p = q ∧ byte0 = b ∧ len = l := by simpa using hl
  have hm : headerMalformed byte0 len.toNat = true := h
  rw [headerMalformed_eq_false.mpr hb] at hm
  exact absurd hm (by simp)

theorem silenceExpiry (c : ChanId) : Statement (.silenceExpiry c) := of_plain (by simp) (by simp) (by simp)

theorem auxFreshnessExpiry (c : ChanId) : Statement (.auxFreshnessExpiry c) := of_plain (by simp) (by simp) (by simp)

theorem refreshExpiry (c : ChanId) : Statement (.refreshExpiry c) := of_plain (by simp) (by simp) (by simp)

theorem fetchStart : Statement .fetchStart := of_plain (by simp) (by simp) (by simp)

theorem fetchComplete : Statement .fetchComplete := of_plain (by simp) (by simp) (by simp)

theorem managementAccessStart : Statement .managementAccessStart := of_plain (by simp) (by simp) (by simp)

theorem managementAccessComplete : Statement .managementAccessComplete := of_plain (by simp) (by simp) (by simp)

theorem dnTransmitStart : Statement .dnTransmitStart := of_plain (by simp) (by simp) (by simp)

theorem dnTransmitComplete : Statement .dnTransmitComplete := of_plain (by simp) (by simp) (by simp)

theorem upTransmitStart : Statement .upTransmitStart := of_plain (by simp) (by simp) (by simp)

theorem upTransmitComplete : Statement .upTransmitComplete := of_plain (by simp) (by simp) (by simp)

theorem tableClearComplete : Statement .tableClearComplete := of_plain (by simp) (by simp) (by simp)

theorem resetNFall : Statement .resetNFall := of_plain (by simp) (by simp) (by simp)

theorem resetNRelease (addr : BitVec 4) (rate : Bool) : Statement (.resetNRelease addr rate) := of_plain (by simp) (by simp) (by simp)

theorem estopNFall : Statement .estopNFall := of_plain (by simp) (by simp) (by simp)

theorem estopNRise : Statement .estopNRise := of_plain (by simp) (by simp) (by simp)

theorem maintChange (level : Bool) : Statement (.maintChange level) := of_plain (by simp) (by simp) (by simp)

theorem unknownRequest : Statement .unknownRequest := of_plain (by simp) (by simp) (by simp)

theorem identify : Statement .identify := of_plain (by simp) (by simp) (by simp)

theorem readTableStep : Statement .readTableStep := of_plain (by simp) (by simp) (by simp)

theorem readTableProgram : Statement .readTableProgram := of_plain (by simp) (by simp) (by simp)

theorem readTableProfileSeg : Statement .readTableProfileSeg := of_plain (by simp) (by simp) (by simp)

theorem readTableProfile : Statement .readTableProfile := of_plain (by simp) (by simp) (by simp)

theorem readTableLimit : Statement .readTableLimit := of_plain (by simp) (by simp) (by simp)

theorem readTableAccept : Statement .readTableAccept := of_plain (by simp) (by simp) (by simp)

theorem readTableConfig : Statement .readTableConfig := of_plain (by simp) (by simp) (by simp)

theorem writeTableStep : Statement .writeTableStep := of_plain (by simp) (by simp) (by simp)

theorem writeTableProgram : Statement .writeTableProgram := of_plain (by simp) (by simp) (by simp)

theorem writeTableProfileSeg : Statement .writeTableProfileSeg := of_plain (by simp) (by simp) (by simp)

theorem writeTableProfile : Statement .writeTableProfile := of_plain (by simp) (by simp) (by simp)

theorem writeTableLimit : Statement .writeTableLimit := of_plain (by simp) (by simp) (by simp)

theorem writeTableAccept : Statement .writeTableAccept := of_plain (by simp) (by simp) (by simp)

theorem writeTableConfig : Statement .writeTableConfig := of_plain (by simp) (by simp) (by simp)

theorem configure : Statement .configure := of_plain (by simp) (by simp) (by simp)

theorem start : Statement .start := of_plain (by simp) (by simp) (by simp)

theorem hold : Statement .hold := of_plain (by simp) (by simp) (by simp)

theorem resume : Statement .resume := of_plain (by simp) (by simp) (by simp)

theorem stop : Statement .stop := of_plain (by simp) (by simp) (by simp)

theorem jump : Statement .jump := of_plain (by simp) (by simp) (by simp)

theorem clearFault : Statement .clearFault := of_plain (by simp) (by simp) (by simp)

theorem clearTotals : Statement .clearTotals := of_plain (by simp) (by simp) (by simp)

theorem undefinedChannelCommand : Statement .undefinedChannelCommand := of_plain (by simp) (by simp) (by simp)

theorem readChannel : Statement .readChannel := of_plain (by simp) (by simp) (by simp)

theorem readAccounts : Statement .readAccounts := of_plain (by simp) (by simp) (by simp)

theorem readFault : Statement .readFault := of_plain (by simp) (by simp) (by simp)

theorem readCounters : Statement .readCounters := of_plain (by simp) (by simp) (by simp)

theorem clearCounters : Statement .clearCounters := of_plain (by simp) (by simp) (by simp)

theorem resetEngine : Statement .resetEngine := of_plain (by simp) (by simp) (by simp)

theorem clearEstop : Statement .clearEstop := of_plain (by simp) (by simp) (by simp)

theorem undefinedEngineCommand : Statement .undefinedEngineCommand := of_plain (by simp) (by simp) (by simp)

theorem receiverArmed (p : Port) : Statement (.receiverArmed p) := of_plain (by simp) (by simp) (by simp)

theorem upCrcError : Statement .upCrcError := of_plain (by simp) (by simp) (by simp)

theorem timeBaseTick : Statement .timeBaseTick := of_plain (by simp) (by simp) (by simp)

theorem readTableUndefinedTable : Statement .readTableUndefinedTable := of_plain (by simp) (by simp) (by simp)

theorem writeTableUndefinedTable : Statement .writeTableUndefinedTable := of_plain (by simp) (by simp) (by simp)

end Sys2Proof.Laws.FrameBounds
end

