-- ==== Sys2Proof/Laws/Tables.lean ====
section
/-! SUPPORT. What a table operation does: a read after a write gives the value written and leaves every other entry alone, and
every write keeps the canonical form, so that equal tables are equal lists. The last part says that no command writes a
table but those that should, in the form of the writes themselves. -/

namespace Sys2Proof.Machine

open Sys2Proof

variable {α : Type}

/-- An entry below every listed one holds the unlisted value. -/
theorem Table.read_of_lt {d : α} {t : Table α} {i : Nat} (h : ∀ p ∈ t, i < p.1) : Table.read d t i = d := by
  induction t with
  | nil => rfl
  | cons p t ih =>
    obtain ⟨k, v⟩ := p
    have hk : k ≠ i := Nat.ne_of_gt (h (k, v) (List.mem_cons_self ..))
    simp [Table.read, hk, ih (fun p hp => h p (List.mem_cons_of_mem _ hp))]

variable [DecidableEq α]

/-- The canonical form of a table with a first entry. -/
theorem Table.wf_cons {d : α} {n k : Nat} {v : α} {t : Table α} :
    Table.wf d n ((k, v) :: t) = true ↔
      k < n ∧ v ≠ d ∧ (∀ p ∈ t, k < p.1) ∧ Table.wf d n t = true := by
  simp [Table.wf, and_assoc]

/-- The numbers listed after a write are those listed before and the one written. -/
theorem Table.mem_write {d : α} {t : Table α} {i : Nat} {v : α} {p : Nat × α} (h : p ∈ Table.write d t i v) :
    p ∈ t ∨ p.1 = i := by
  induction t with
  | nil =>
    unfold Table.write at h
    split at h <;> simp_all
  | cons q t ih =>
    obtain ⟨k, w⟩ := q
    unfold Table.write at h
    split at h
    · split at h
      · exact .inl (List.mem_cons_of_mem _ h)
      · rcases List.mem_cons.mp h with rfl | h
        · exact .inr rfl
        · exact .inl (List.mem_cons_of_mem _ h)
    · split at h
      · split at h
        · exact .inl h
        · rcases List.mem_cons.mp h with rfl | h
          · exact .inr rfl
          · exact .inl h
      · rcases List.mem_cons.mp h with rfl | h
        · exact .inl (List.mem_cons_self ..)
        · rcases ih h with h | h
          · exact .inl (List.mem_cons_of_mem _ h)
          · exact .inr h

/-- A write keeps the canonical form. -/
theorem Table.wf_write {d : α} {n : Nat} {t : Table α} {i : Nat} {v : α} (h : Table.wf d n t = true) (hi : i < n) :
    Table.wf d n (Table.write d t i v) = true := by
  induction t with
  | nil =>
    unfold Table.write
    split
    · rfl
    · simp [Table.wf, *]
  | cons q t ih =>
    obtain ⟨k, w⟩ := q
    obtain ⟨hk, hw, hall, ht⟩ := Table.wf_cons.mp h
    unfold Table.write
    split
    · subst i
      split
      · exact ht
      · exact Table.wf_cons.mpr ⟨hk, ‹_›, hall, ht⟩
    · split
      · split
        · exact h
        · refine Table.wf_cons.mpr ⟨hi, ‹_›, fun p hp => ?_, h⟩
          rcases List.mem_cons.mp hp with rfl | hp
          · assumption
          · have := hall p hp; omega
      · refine Table.wf_cons.mpr ⟨hk, hw, fun p hp => ?_, ih ht⟩
        rcases Table.mem_write hp with hp | hp
        · exact hall p hp
        · omega

/-- A read after a write: the entry written holds the value, every other entry what it held. -/
theorem Table.read_write {d : α} {n : Nat} {t : Table α} {i : Nat} {v : α} (h : Table.wf d n t = true) (j : Nat) :
    Table.read d (Table.write d t i v) j = if j = i then v else Table.read d t j := by
  induction t with
  | nil =>
    unfold Table.write
    by_cases hv : v = d
    · simp [hv, Table.read]
    · by_cases hj : j = i
      · simp [hv, Table.read, hj]
      · simp [hv, Table.read, hj, Ne.symm hj]
  | cons q t ih =>
    obtain ⟨k, w⟩ := q
    obtain ⟨hk, hw, hall, ht⟩ := Table.wf_cons.mp h
    unfold Table.write
    by_cases hki : k = i
    · subst hki
      simp only [if_true]
      by_cases hv : v = d
      · simp only [hv, if_true, Table.read]
        by_cases hj : j = k
        · subst hj; simp [Table.read_of_lt hall]
        · simp [hj, Ne.symm hj]
      · simp only [hv, if_false, Table.read]
        by_cases hj : j = k
        · simp [hj]
        · simp [hj, Ne.symm hj]
    · simp only [hki, if_false]
      by_cases hik : i < k
      · simp only [hik, if_true]
        by_cases hv : v = d
        · simp only [hv, if_true]
          by_cases hj : j = i
          · subst hj
            have : ∀ p ∈ (k, w) :: t, j < p.1 := by
              intro p hp
              rcases List.mem_cons.mp hp with rfl | hp
              · exact hik
              · exact Nat.lt_trans hik (hall p hp)
            simp [Table.read_of_lt this]
          · simp [hj]
        · simp only [hv, if_false]
          rw [Table.read]
          by_cases hj : j = i
          · simp [hj]
          · simp [hj, Ne.symm hj]
      · simp only [hik, if_false, Table.read, ih ht]
        by_cases hj : j = i
        · subst hj; simp [hki]
        · simp [hj]

/-- Writing consecutive entries keeps the canonical form. -/
theorem Table.wf_writeAll {d : α} {n : Nat} {t : Table α} {i : Nat} {vs : List α} (h : Table.wf d n t = true)
    (hi : i + vs.length ≤ n) : Table.wf d n (Table.writeAll d t i vs) = true := by
  induction vs generalizing t i with
  | nil => exact h
  | cons v vs ih =>
    simp only [List.length_cons] at hi
    exact ih (Table.wf_write h (by omega)) (by omega)

/-- A read after writing consecutive entries. -/
theorem Table.read_writeAll {d : α} {n : Nat} {t : Table α} {i : Nat} {vs : List α} (h : Table.wf d n t = true)
    (hi : i + vs.length ≤ n) (j : Nat) :
    Table.read d (Table.writeAll d t i vs) j =
      if i ≤ j ∧ j < i + vs.length then vs.getD (j - i) d else Table.read d t j := by
  induction vs generalizing t i with
  | nil => simp [Table.writeAll]
  | cons v vs ih =>
    simp only [List.length_cons] at hi
    rw [Table.writeAll, ih (Table.wf_write h (by omega)) (by omega), Table.read_write h]
    rcases Nat.lt_trichotomy j i with hj | rfl | hj
    · have h1 : ¬ (i + 1 ≤ j ∧ j < i + 1 + vs.length) := by omega
      have h2 : ¬ (i ≤ j ∧ j < i + (v :: vs).length) := by omega
      rw [if_neg h1, if_neg h2, if_neg (by omega)]
    · have h1 : ¬ (j + 1 ≤ j ∧ j < j + 1 + vs.length) := by omega
      have h2 : j ≤ j ∧ j < j + (v :: vs).length := by simp
      rw [if_neg h1, if_pos h2, if_pos rfl]
      simp
    · by_cases h1 : j < i + 1 + vs.length
      · have h2 : i ≤ j ∧ j < i + (v :: vs).length := by simp only [List.length_cons]; omega
        obtain ⟨m, rfl⟩ : ∃ m, j = i + 1 + m := ⟨j - (i + 1), by omega⟩
        rw [if_pos ⟨by omega, h1⟩, if_pos h2]
        have e1 : i + 1 + m - (i + 1) = m := by omega
        have e2 : i + 1 + m - i = m + 1 := by omega
        rw [e1, e2, List.getD_cons_succ]
      · have h2 : ¬ (i ≤ j ∧ j < i + (v :: vs).length) := by simp only [List.length_cons]; omega
        rw [if_neg (fun h => h1 h.2), if_neg h2, if_neg (by omega)]

/-! ### The tables of the engine -/

/-- The tables after power-on reset are in canonical form. -/
theorem State.reset_tablesWf : State.reset.tablesWf := by decide

/-- A record written through the table port keeps every table in canonical form. -/
theorem State.portWrite_tablesWf {s : State} {t : PortTable} {i : Nat} {l : List Byte} (h : s.tablesWf) (hi : i < t.size) :
    (s.portWrite t i l).tablesWf := by
  obtain ⟨h1, h2, h3, h4, h5, h6, h7⟩ := h
  cases t <;> simp only [State.portWrite]
  · cases readStep l with
    | none => exact ⟨h1, h2, h3, h4, h5, h6, h7⟩
    | some r => exact ⟨h1, Table.wf_write h2 hi, h3, h4, h5, h6, h7⟩
  · cases readProgram l with
    | none => exact ⟨h1, h2, h3, h4, h5, h6, h7⟩
    | some r => exact ⟨h1, h2, Table.wf_write h3 hi, h4, h5, h6, h7⟩
  · cases readSegment l with
    | none => exact ⟨h1, h2, h3, h4, h5, h6, h7⟩
    | some r => exact ⟨h1, h2, h3, Table.wf_write h4 hi, h5, h6, h7⟩
  · cases readProfile l with
    | none => exact ⟨h1, h2, h3, h4, h5, h6, h7⟩
    | some r => exact ⟨h1, h2, h3, h4, Table.wf_write h5 hi, h6, h7⟩

/-- The limit sets of one request landing together keep the canonical form (R103). -/
theorem State.writeLimitTable_tablesWf {s : State} {i : Nat} {sets : List LimitSet} (h : s.tablesWf)
    (hi : i + sets.length ≤ 16) :
    ({ s with limitTable := Table.writeAll LimitSet.reset s.limitTable i sets } : State).tablesWf := by
  obtain ⟨h1, h2, h3, h4, h5, h6, h7⟩ := h
  exact ⟨h1, h2, h3, h4, h5, Table.wf_writeAll h6 hi, h7⟩

/-- The acceptance entries of one request landing together keep the canonical form (R2). -/
theorem State.writeAcceptTable_tablesWf {s : State} {i : Nat} {es : List AcceptEntry} (h : s.tablesWf)
    (hi : i + es.length ≤ 64) :
    ({ s with acceptTable := Table.writeAll AcceptEntry.reset s.acceptTable i es } : State).tablesWf := by
  obtain ⟨h1, h2, h3, h4, h5, h6, h7⟩ := h
  exact ⟨Table.wf_writeAll h1 hi, h2, h3, h4, h5, h6, h7⟩

/-- A configuration record replaced whole keeps the canonical form (R124). -/
theorem State.writeConfigTable_tablesWf {s : State} {c : ChanId} {k : ConfigRec} (h : s.tablesWf) :
    ({ s with configTable := Table.write ConfigRec.reset s.configTable c.val k } : State).tablesWf := by
  obtain ⟨h1, h2, h3, h4, h5, h6, h7⟩ := h
  exact ⟨h1, h2, h3, h4, h5, h6, Table.wf_write h7 c.isLt⟩

/-- The configuration of a channel after one record was replaced. -/
theorem State.writeConfigTable_cfg {s : State} {c d : ChanId} {k : ConfigRec} (h : s.tablesWf) :
    ({ s with configTable := Table.write ConfigRec.reset s.configTable c.val k } : State).cfg d =
      if d = c then k else s.cfg d := by
  simp only [State.cfg, Table.read_write h.2.2.2.2.2.2, Fin.ext_iff]

end Sys2Proof.Machine
end

