-- ==== Sys2Proof/Laws/Reads.lean ====
section
/-! SUPPORT. What can happen between two reads of a PROFILE evaluation (R51): the table port's segment writes land, which
touch the tables of the port, its job, the port itself and the two queues of the management unit, and no channel. So the
advance of a profile cursor and a change of a channel do not meet. -/

namespace Sys2Proof.Machine

open Sys2Proof

/-! ### One landing -/

/-- Starting the access that is due changes the port only (R63). -/
theorem State.portNext_eq (s : State) :
    s.portNext = { s with port := s.portNext.port, portLast := s.portNext.portLast } := by
  unfold State.portNext
  cases s.dueAccess with
  | none => rfl
  | some k => cases k <;> rfl

/-- A busy port starts nothing. -/
theorem State.portNext_of_busy {s : State} (h : s.port ≠ .free) : s.portNext = s := by
  have : (s.port == PortState.free) = false := by simpa using h
  simp [State.portNext, State.dueAccess, this]

/-- The record work of an access touches the port tables. -/
theorem State.accessRecord_eq (s : State) (j : TableJob) :
    s.accessRecord j =
      { s with
        stepTable := (s.accessRecord j).stepTable, programTable := (s.accessRecord j).programTable
        segmentTable := (s.accessRecord j).segmentTable, profileTable := (s.accessRecord j).profileTable } := by
  unfold State.accessRecord State.portWrite
  split
  · split <;> split <;> rfl
  · rfl

/-- A completed access touches the port tables, the job, the port and the queues of the management unit. -/
theorem State.completeAccess_eq (s : State) :
    s.completeAccess =
      { s with
        stepTable := s.completeAccess.stepTable, programTable := s.completeAccess.programTable
        segmentTable := s.completeAccess.segmentTable, profileTable := s.completeAccess.profileTable
        job := s.completeAccess.job, port := s.completeAccess.port, requests := s.completeAccess.requests
        answers := s.completeAccess.answers } := by
  unfold State.completeAccess
  split
  · split
    · unfold State.finishAccess
      split
      · rw [State.accessRecord_eq]; rfl
      · rw [State.accessRecord_eq]
    · rfl
    · rfl
  · rfl
  · rfl

/-- An access that completes for the request in execution. -/
theorem State.completeAccess_of_job {s : State} {j : TableJob} {r : Request} {rest : List Request}
    (hp : s.port = .access) (hj : s.job = some j) (hr : s.requests = r :: rest) :
    s.completeAccess = ({ s with port := .free } : State).finishAccess j r := by
  simp only [State.completeAccess, hp, hj, hr]

/-- One landing of a segment write (R52, R63): the record under the job's index is replaced, and after the last one the
answer is placed. -/
theorem State.landWrite_of_segmentWrite {s : State} {j : TableJob} {r : Request} {rest : List Request}
    (h : s.segmentWrite = some j) (hr : s.requests = r :: rest) :
    s.landWrite =
      { s with
        segmentTable :=
          match readSegment (j.data.take 4) with
          | some g => Table.write Segment.reset s.segmentTable j.index g
          | none => s.segmentTable
        port := .free, portLast := s.portNext.portLast
        job :=
          if j.left - 1 = 0 then none
          else some { j with index := j.index + 1, left := j.left - 1, data := j.data.drop 4 }
        requests := if j.left - 1 = 0 then rest else s.requests
        answers :=
          if j.left - 1 = 0 then
            s.answers ++ [{ tag := r.tag, code := r.code, status := .ok, results := j.out, resets := false }]
          else s.answers } := by
  obtain ⟨hj, hk⟩ := Option.filter_eq_some_iff.mp h
  simp only [Bool.and_eq_true, beq_iff_eq] at hk
  obtain ⟨⟨hw, ht⟩, hp⟩ := hk
  unfold State.landWrite State.completeAccess
  rw [State.portNext_eq, hp]
  simp only [hj, hr, State.finishAccess, State.accessRecord, State.jobNext, hw, ht, if_true, State.portWrite, PortTable.recSize]
  cases readSegment (j.data.take 4) <;> split <;> simp [State.placeAnswer]

/-! ### The moment before a read -/

/-- Without a segment write under way nothing lands. -/
theorem State.betweenReads_of_none {s : State} (h : s.segmentWrite = none) : s.betweenReads = s := by
  simp [State.betweenReads, h]

/-- A completed access and a change of a channel do not meet. -/
theorem State.completeAccess_setChan (s : State) (c : ChanId) (ch : Channel) :
    (s.setChan c ch).completeAccess = s.completeAccess.setChan c ch := by
  have ha : ∀ (v : State) (j : TableJob), (v.setChan c ch).accessRecord j = (v.accessRecord j).setChan c ch := by
    intro v j
    unfold State.accessRecord State.portWrite
    split
    · split <;> split <;> rfl
    · rfl
  have hn : ∀ (v : State) (j : TableJob), (v.setChan c ch).jobNext j = v.jobNext j := by
    intro v j; unfold State.jobNext State.portBytes; cases j.table <;> rfl
  have hf : ∀ (v : State) (j : TableJob) (r : Request),
      (v.setChan c ch).finishAccess j r = (v.finishAccess j r).setChan c ch := by
    intro v j r
    unfold State.finishAccess
    rw [hn, ha]
    split <;> rfl
  cases hp : s.port with
  | free => simp [State.completeAccess, hp]
  | fetch _ _ _ => simp [State.completeAccess, hp]
  | access =>
    cases hj : s.job with
    | none => simp only [State.completeAccess, State.setChan_port, State.setChan_job, hp, hj]; rfl
    | some j =>
      cases hr : s.requests with
      | nil =>
        simp only [State.completeAccess, State.setChan_port, State.setChan_job, State.setChan_requests, hp, hj, hr]
        rfl
      | cons r rest =>
        rw [State.completeAccess_of_job (s := s.setChan c ch) hp hj hr, State.completeAccess_of_job hp hj hr]
        exact hf { s with port := .free } j r

/-- Starting the access that is due and a change of a channel do not meet. -/
theorem State.portNext_setChan (s : State) (c : ChanId) (ch : Channel) :
    (s.setChan c ch).portNext = s.portNext.setChan c ch := by
  have hd : (s.setChan c ch).dueAccess = s.dueAccess := rfl
  unfold State.portNext
  rw [hd]
  cases s.dueAccess with
  | none => rfl
  | some k => cases k <;> rfl

/-- A landing and a change of a channel do not meet. -/
theorem State.landWrite_setChan (s : State) (c : ChanId) (ch : Channel) :
    (s.setChan c ch).landWrite = s.landWrite.setChan c ch := by
  unfold State.landWrite
  rw [State.portNext_setChan, State.completeAccess_setChan]

theorem State.landWrites_setChan (n : Nat) (s : State) (c : ChanId) (ch : Channel) :
    (s.setChan c ch).landWrites n = (s.landWrites n).setChan c ch := by
  induction n generalizing s with
  | zero => rfl
  | succ n ih => simp only [State.landWrites, State.landWrite_setChan, ih]

theorem State.segmentWrite_setChan (s : State) (c : ChanId) (ch : Channel) :
    (s.setChan c ch).segmentWrite = s.segmentWrite := by
  simp only [State.segmentWrite, State.setChan_job, State.portNext_setChan, State.setChan_port]

/-- What lands before a read and a change of a channel do not meet. -/
theorem State.betweenReads_setChan (s : State) (c : ChanId) (ch : Channel) :
    (s.setChan c ch).betweenReads = s.betweenReads.setChan c ch := by
  unfold State.betweenReads
  rw [State.segmentWrite_setChan]
  cases s.segmentWrite with
  | none => rfl
  | some j =>
    exact State.landWrites_setChan (min j.left (Config.writesLanding s.readRaces))
      { s with readRaces := s.readRaces + 1 } c ch

/-- The advance of a profile cursor reads no channel. -/
theorem profileAdvance_setChan (d : ProfileDesc) (ts n : Nat) (s : State) (o start : Nat) (c : ChanId) (ch : Channel) :
    profileAdvance d ts n (s.setChan c ch) o start =
      { profileAdvance d ts n s o start with after := (profileAdvance d ts n s o start).after.setChan c ch } := by
  induction n generalizing s o start with
  | zero => rfl
  | succ n ih =>
    simp only [profileAdvance]
    split
    · split
      · rfl
      · exact ih ..
    · rw [State.betweenReads_setChan, State.setChan_segment]
      split
      · exact ih ..
      · rfl

/-! ### What no landing touches -/

/-- `u` differs from `s` only in what landings touch: the port tables, the job, the port, the queues of the management unit
and the model's own count of the reads at which one could land. -/
def State.LandedFrom (u s : State) : Prop :=
  u = { s with
    stepTable := u.stepTable, programTable := u.programTable, segmentTable := u.segmentTable
    profileTable := u.profileTable, job := u.job, port := u.port, portLast := u.portLast, requests := u.requests
    answers := u.answers, readRaces := u.readRaces }

theorem State.LandedFrom.refl (s : State) : s.LandedFrom s := by unfold State.LandedFrom; rfl

theorem State.LandedFrom.trans {v u s : State} (h : v.LandedFrom u) (k : u.LandedFrom s) : v.LandedFrom s := by
  unfold State.LandedFrom at *
  exact h.trans (by rw [k])

theorem State.LandedFrom.channels {u s : State} (h : u.LandedFrom s) : u.channels = s.channels := by rw [h]
theorem State.LandedFrom.chan {u s : State} (h : u.LandedFrom s) (c : ChanId) : u.chan c = s.chan c := by
  unfold State.chan; rw [h.channels]
theorem State.LandedFrom.cfg {u s : State} (h : u.LandedFrom s) (c : ChanId) : u.cfg c = s.cfg c := by
  unfold State.cfg; rw [h]
theorem State.LandedFrom.fetchQueue {u s : State} (h : u.LandedFrom s) : u.fetchQueue = s.fetchQueue := by rw [h]
theorem State.LandedFrom.nextSince {u s : State} (h : u.LandedFrom s) : u.nextSince = s.nextSince := by rw [h]
theorem State.LandedFrom.reports {u s : State} (h : u.LandedFrom s) : u.reports = s.reports := by rw [h]
theorem State.LandedFrom.timeBase {u s : State} (h : u.LandedFrom s) : u.timeBase = s.timeBase := by rw [h]

theorem State.landWrite_landed (s : State) : s.landWrite.LandedFrom s := by
  have h : s.portNext.LandedFrom s := by
    unfold State.LandedFrom
    rw [State.portNext_eq]
  refine State.LandedFrom.trans ?_ h
  unfold State.landWrite State.LandedFrom
  rw [State.completeAccess_eq]

theorem State.landWrites_landed (n : Nat) (s : State) : (s.landWrites n).LandedFrom s := by
  induction n generalizing s with
  | zero => exact State.LandedFrom.refl s
  | succ n ih => exact (ih s.landWrite).trans (State.landWrite_landed s)

/-- What can happen before a read touches no channel. -/
theorem State.betweenReads_landed (s : State) : s.betweenReads.LandedFrom s := by
  unfold State.betweenReads
  cases s.segmentWrite with
  | none => exact State.LandedFrom.refl s
  | some j => exact (State.landWrites_landed ..).trans (by unfold State.LandedFrom; rfl)

/-- The state in which a cursor's advance ends differs from the one it began in only by what landed before its reads. -/
theorem profileAdvance_landed (d : ProfileDesc) (ts n : Nat) (s : State) (o start : Nat) :
    (profileAdvance d ts n s o start).after.LandedFrom s := by
  induction n generalizing s o start with
  | zero => exact State.LandedFrom.refl s
  | succ n ih =>
    simp only [profileAdvance]
    split
    · split
      · exact State.LandedFrom.refl s
      · exact ih ..
    · split
      · exact (ih ..).trans (State.betweenReads_landed s)
      · exact State.betweenReads_landed s

end Sys2Proof.Machine
end

