-- ==== Sys2Proof/Tests/Slice0.lean ====
section
/-! SUPPORT. The model's own tests: what well-formedness refuses, the manual's worked numbers, one small test for each command,
and for every statement of Obligations.lean that has hypotheses a concrete state and operands that meet them, clause by
clause. Expected values come from the manual; the rule or section is named at each test. -/

namespace Sys2Proof.Tests

set_option Elab.async false

open Sys2Proof Sys2Proof.Machine

/-! ## Building blocks -/

/-- Bytes written as numbers. -/
def bytes (l : List Nat) : List Byte := l.map (BitVec.ofNat 8)

/-- A request with tag 1 whose code and arguments are given as numbers. -/
def ask (l : List Nat) : Request := { tag := 1, code := BitVec.ofNat 8 (l.headD 0), args := bytes (l.drop 1) }

/-- A frame with a fresh CRC. -/
def frame (kind addr : Nat) (payload : List Nat) : Frame := buildFrame kind (BitVec.ofNat 8 addr) (bytes payload)

/-- A SAMPLE frame: tag, seq, V = 51,230 mV, I = 100 (1 A), T = 312, no flags. -/
def sample (tag seq : Nat) : Frame := frame 1 tag [seq, 200, 30, 0, 100, 1, 56, 0]

/-- The state a command leaves. -/
def run (c : Instr) (s : State) : State :=
  match exec c s with
  | .next t => t
  | .fault _ => s
  | .refused _ => s

/-- A configuration record: stage 20, P = 10, G = 4, M = 8, limit set 0, STATE reports enabled. -/
def config (policy : Policy) (shadow : Bool) : ConfigRec :=
  { configured := true, stage := 20, period := 10, gapLimit := 4, silenceMult := 8, limitSet := 0, policy := policy,
    mode := .first, shadow := shadow, stateReport := true }

/-- A limit set: 36.0 V to 58.8 V, 300 A, -20 °C to 60 °C; soft 40.0 V to 57.6 V, 50 °C; tolerance 150 mV. -/
def limits : LimitSet :=
  { valid := true, tRequired := false, vHardMin := 36000, vHardMax := 58800, iHardMax := 30000, tHardMin := -200,
    tHardMax := 600, vSoftMin := 40000, vSoftMax := 57600, tSoftMax := 500, tolerance := 150 }

/-- A program of nine records from base 0. -/
def program : ProgramDesc :=
  { valid := true, base := 0, limit := 9, ichgMax := 16000, idisMax := 25000, allowCharge := true,
    allowDischarge := true }

/-- A step record with an op and its operands A, B and G. -/
def record (op : StepOp) (a : Int) (b g : Nat) : StepRecord := { StepRecord.reset with op := op, a := a, b := b, g := g }

/-- A terminator slot. -/
def slot (kind : TermKind) (action : TermAction) (target : Nat) (threshold : Int) : Terminator :=
  { kind := kind, action := action, target := target, threshold := threshold }

/-- The acceptance entries of the rig: tags 40H to 42H as the PRIMARY, AUX and CHECK sources of channel 0. -/
def entries : Table AcceptEntry :=
  [(0, { enable := true, tag := 0x40, mask := 0xFF, channel := 0, role := .primary }),
   (1, { enable := true, tag := 0x41, mask := 0xFF, channel := 0, role := .aux }),
   (2, { enable := true, tag := 0x42, mask := 0xFF, channel := 0, role := .check }),
   (3, { enable := true, tag := 0x43, mask := 0xFF, channel := 5, role := .primary })]

/-- The rig: the engine READY, channel 0 configured under AUTO and channels 1 to 4 under HOLD_AFTER_RECOVERY, CONTROLLER,
HOLD_AT_TRIP and in shadow mode, limit set 0, program 0, profile 0 of two segments. -/
def rig : State :=
  { State.reset with
    engine := .ready, clearing := false, acceptTable := entries, limitTable := [(0, limits)]
    programTable := [(0, program)], segmentTable := [(0, { current := 5000, hold := 20 }), (1, { current := -5000, hold := 10 })]
    profileTable := [(0, { valid := true, first := 0, count := 2, rep := .wrap })]
    configTable := [(0, config .auto false), (1, config .holdAfterRecovery false), (2, config .controller false),
      (3, config .holdAtTrip false), (4, config .auto true)] }

/-- The descriptor cache that START of program 0 loads. -/
def cache : DescCache := program.toCache

/-- The context of a step that executes record `r` at index 1. -/
def stepping (r : StepRecord) : Sequencing := { Sequencing.reset with cache := some cache, index := 1, stepCopy := some r }

/-- The context of a transition in flight at index 1. -/
def moving : Sequencing := { Sequencing.reset with cache := some cache, index := 1, inFlight := true }

/-- A channel in a state with a sequencing context. -/
def chan (st : ChState) (q : Sequencing) : Channel := { Channel.reset with state := st, seq := q }

/-- A channel that executes CC 50 A. -/
def driving : Channel := chan .running (stepping (record .cc 5000 0 0))

/-- The rig with channel 0 as given. -/
def rigWith (ch : Channel) : State := rig.setChan 0 ch

/-- The rig with a channel as given. -/
def rigAt (c : ChanId) (ch : Channel) : State := rig.setChan c ch

/-- A state with a single request waiting. -/
def asked (s : State) (l : List Nat) : State := { s with requests := [ask l] }

/-- A state whose port holds the live fetch of record 3 for channel 0, the record being `r`. -/
def fetched (s : State) (r : StepRecord) : State := { s with port := .fetch 0 (.read 3) true, stepTable := [(3, r)] }

/-- The rig with channel 0 in a transition at index 1 and its fetch in progress. -/
def fetching (r : StepRecord) : State := fetched (rigWith (chan .running moving)) r

/-- A channel whose score is `n`. -/
def scored (st : ChState) (n : Nat) : Channel :=
  { chan st (stepping (record .cc 5000 0 0)) with sup := { Supervision.reset with score := n, level := band n } }

/-- A delivery within every limit: V = 51,230 mV, I = 100, T = 312, span 1. -/
def clean : Delivery :=
  { tick := 0, v := 51230, i := 100, t := some 312, span := 1, gap := false, cadence := false, overrange := false,
    stuck := false, aux := none }

/-- The code of the first answer's status. -/
def status (s : State) : Option Status := s.answers.head?.map (·.status)

/-! ## What well-formedness refuses -/

/-- A SAMPLE frame of nine bytes fails the header check (R141). -/
theorem test_wf_refuses_long_sample : (Instr.upFrameReceived (frame 1 0x40 [0, 0, 0, 0, 0, 0, 0, 0, 0])).wf = false := by
  decide +kernel

/-- A SETPOINT frame of three bytes fails the header check (R141). -/
theorem test_wf_refuses_short_setpoint : (Instr.dnFrameReceived (frame 2 5 [0, 0, 0])).wf = false := by decide +kernel

/-- A payload of 121 bytes fails the header check (R141). -/
theorem test_wf_refuses_121_bytes :
    Frame.wf { byte0 := 0x50, addr := 7, payload := List.replicate 121 0, crc := 0 } = false := by decide +kernel

/-- A header that passes the check is no malformed header. -/
theorem test_wf_refuses_sound_header : (Instr.malformedHeader .up 0x10 8).wf = false := by decide +kernel

/-- A payload of 120 bytes, a SAMPLE frame of 8 and a header of length 121 are well formed. -/
theorem test_wf_admits :
    Frame.wf { byte0 := 0x50, addr := 7, payload := List.replicate 120 0, crc := 0 } = true ∧
      (Instr.dnFrameReceived (sample 0x40 1)).wf = true ∧ (Instr.malformedHeader .dn 0x50 121).wf = true := by
  decide +kernel

/-! ## The manual's worked numbers -/

/-- The CRC of the bytes 31H to 39H is 29B1H (R142). -/
theorem test_crc : crc16 (bytes [0x31, 0x32, 0x33, 0x34, 0x35, 0x36, 0x37, 0x38, 0x39]) = 0x29B1 := by decide +kernel

/-- The engine address with ADDR 3 is F3H (R144, Section 8.9). -/
theorem test_engine_address : ({ State.reset with addrStrap := 3 } : State).engineAddress = 0xF3 := by decide +kernel

/-- The CP example of Section 5.3: 12 kW of discharge at 52,000, 42,000 and 300 mV, clamped to 25,000, and halved. -/
theorem test_cp_example :
    computeR (record .cp (-1200000) 0 0) 52000 0 0 = -23076 ∧
      cache.clamp (computeR (record .cp (-1200000) 0 0) 42000 0 0) = -25000 ∧
      cache.clamp (computeR (record .cp (-1200000) 0 0) 300 0 0) = -25000 ∧
      emitted .derated (-23076) = -11538 ∧ computeR (record .cp (-15000) 0 0) 48000 0 0 = -312 := by decide +kernel

/-- The CCCV example of Section 5.3: the correction is floored, and the sum held within 0..A. -/
theorem test_cccv_example :
    computeR (record .cccv 15000 54600 24) 51237 15000 0 = 15000 ∧
      computeR (record .cccv 15000 54600 24) 54690 15000 0 = 14865 ∧
      computeR (record .cccv 15000 54600 24) 54653 14865 0 = 14785 := by decide +kernel

/-- The report examples of Section 2: 1,234,567,890 µC is 342,936 µAh, 63,200,000 mJ is 17,556 mWh, and 17,901,000 mJ lies
exactly half way and goes to 4,973 mWh. -/
theorem test_hours_example :
    toHours 1234567890 = 342936 ∧ toHours 63200000 = 17556 ∧ toHoursNat 17901000 = 4973 ∧ toHours (-1800) = -1 := by
  decide +kernel

/-- The efficiency of 358,920,000 µC out of 360,000,000 µC is 9,970 permyriad (R37, Section 2). -/
theorem test_efficiency_example : efficiency 360000000 358920000 = some 9970 := by decide +kernel

/-- A tag of 43H under the table of the example in Section 1.2 is claimed by entry 1 and not by entry 3. -/
theorem test_overlapping_entries :
    ({ State.reset with acceptTable :=
        [(0, { enable := true, tag := 0x40, mask := 0xFF, channel := 3, role := .primary }),
         (1, { enable := true, tag := 0x40, mask := 0xF0, channel := 3, role := .aux }),
         (3, { enable := true, tag := 0x48, mask := 0xFF, channel := 5, role := .primary })] } : State).claim 0x48 =
      some { enable := true, tag := 0x40, mask := 0xF0, channel := 3, role := .aux } := by decide +kernel

/-- A step record written out byte by byte from R156 is the record it stands for: LOOP, CYCLE, A = 500, B = 7. -/
theorem test_step_bytes :
    readStep (bytes ([8, 2, 0, 0, 1, 244, 0, 7] ++ List.replicate 24 0)) =
      some { record .loop 500 7 0 with cycle := true } := by decide +kernel

/-- A SAMPLE payload written out from R152: seq 7, 51,230 mV, -1, T absent, OVERRANGE. -/
theorem test_sample_bytes :
    readSample (bytes [7, 200, 30, 255, 255, 128, 0, 1]) =
      { seq := 7, v := 51230, i := -1, t := none, overrange := true } := by decide +kernel

/-- A SETPOINT frame for stage 20: seq 41, RUN with the repeat mark, current -2 (R153). -/
theorem test_setpoint_bytes :
    (setpointFrame { stage := 20, command := .run, current := -2, rep := true, final := false } 41).payload =
      bytes [41, 129, 255, 254] := by decide +kernel

/-- No word spells a command: the table gives no row any bits. -/
theorem test_no_word_decodes : decodeTableWord 16 0x1234 = none := rfl

/-! ## One small test for each command -/

/-- A request for the engine joins the request queue (R145). -/
theorem test_up_frame_received :
    (run (.upFrameReceived (frame 8 0xF0 [9, 5, 0])) { rig with upRx := .armed }).requests = [{ tag := 9, code := 5, args := [0] }] := by
  decide +kernel

/-- A claimed sample becomes the reference and is not relayed (R4, R10). -/
theorem test_dn_frame_received :
    ((run (.dnFrameReceived (sample 0x40 7)) { rig with dnRx := .armed }).chan 0).track.reference = some 7 ∧
      (run (.dnFrameReceived (sample 0x40 7)) { rig with dnRx := .armed }).relayUp = [] := by
  decide +kernel

/-- A stop bit of 0 is counted at its own port (R140). -/
theorem test_framing_error :
    (run (.framingError .dn .stopBit) { rig with dnRx := .receiving }).link.dnFraming = 1 := by
  decide +kernel

/-- A SAMPLE header of length 9 counts in MALFORMED of the port and the receiver hunts (R141). -/
theorem test_malformed_header :
    (run (.malformedHeader .up 0x10 9) { rig with upRx := .armed }).link.upMalformed = 1 ∧
      (run (.malformedHeader .up 0x10 9) { rig with upRx := .armed }).upRx = .hunt false := by
  decide +kernel

/-- Twenty idle bit times end HUNT (R140). -/
theorem test_receiver_armed :
    (run (.receiverArmed .dn) rig).dnRx = .armed := by
  decide +kernel

/-- A CRC mismatch is counted in CRC of UP (R142). -/
theorem test_up_crc_error :
    (run .upCrcError { rig with upRx := .receiving }).link.upCrc = 1 := by
  decide +kernel

/-- A silence event trips a RUNNING channel under AUTO into ISOLATED (R113, R115). -/
theorem test_silence_expiry :
    ((run (.silenceExpiry 0) (rigWith { driving with track := { Tracking.reset with silence := some 0 } })).chan 0).state =
      .isolated := by
  decide +kernel

/-- The AUX temperature turns stale and is kept (R18). -/
theorem test_aux_freshness_expiry :
    ((run (.auxFreshnessExpiry 0) (rigWith { driving with
      track := { Tracking.reset with aux := some (312, 0), auxFresh := true, auxTimer := some 0 } })).chan 0).track.auxFresh =
        false := by
  decide +kernel

/-- The last transmitted frame is offered again with the repeat mark (R97). -/
theorem test_refresh_expiry :
    ((run (.refreshExpiry 0) (rigWith { driving with
      sp := { Setpoint.reset with refresh := some 0, lastTx := some { stage := 17, command := .run, current := 14789 } } })).chan
        0).sp.pending = some { stage := 20, command := .run, current := 14789, rep := true, final := false } := by
  decide +kernel

/-- A fetch at the chain limit starts as CHAIN (R64). -/
theorem test_fetch_start :
    (run .fetchStart { rigWith (chan .running { moving with chain := 16 }) with fetchQueue := [0] }).port = .fetch 0 .chain true := by
  decide +kernel

/-- The LOOP record of the example in Section 7.6 pushes its frame (R66). -/
theorem test_fetch_complete :
    ((run .fetchComplete (fetching { record .loop 500 7 0 with cycle := true })).chan 0).seq.stack =
      [.loopFrame 2 7 500 true] := by
  decide +kernel

/-- After a fetch the port turns to the waiting management access (R63). -/
theorem test_management_access_start :
    (run .managementAccessStart { rig with
      portLast := .fetch, fetchQueue := [0], requests := [ask [2, 1]]
      job := some { table := .step, write := false, index := 0, left := 1, data := [], out := [] } }).port = .access := by
  decide +kernel

/-- The last write access places the answer OK (R53). -/
theorem test_management_access_complete :
    status (run .managementAccessComplete { rig with
      port := .access, requests := [ask [3, 3]]
      job := some { table := .segment, write := true, index := 9, left := 1, data := bytes [0, 5, 0, 7], out := [] } }) =
        some .ok := by
  decide +kernel

/-- An OPEN goes ahead of an older RUN (R149). -/
theorem test_dn_transmit_start :
    ((run .dnTransmitStart ((rigWith { driving with sp := { Setpoint.reset with
      since := some 0, pending := some { stage := 20, command := .run, current := 5, rep := false, final := false } } }).setChan
        1 { driving with sp := { Setpoint.reset with
          since := some 1
          pending := some { stage := 20, command := .openPath, current := 0, rep := false, final := false } } })).dnTx.map
            (·.channel)) = some (some 1) := by
  decide +kernel

/-- The refresh timer starts 4 × P ticks after the completion (R94, R96). -/
theorem test_dn_transmit_complete :
    ((run .dnTransmitComplete { rigWith { driving with sp := { Setpoint.reset with
      inTx := some ({ stage := 20, command := .run, current := 5, rep := false, final := false }, 41) } } with
        dnTx := some { frame := sample 0 0, channel := some 0 }, timeBase := 7010 }).chan 0).sp.refresh = some 7050 := by
  decide +kernel

/-- An answer goes ahead of a report and a relay frame (R151). -/
theorem test_up_transmit_start :
    (run .upTransmitStart { rig with
      answers := [{ tag := 1, code := 5, status := .ok, results := [], resets := false }], relayUp := [sample 0x50 1] }).upTx =
        some { frame := frame 9 0xF0 [1, 5, 0], resets := false } := by
  decide +kernel

/-- At the completion of its answer RESET_ENGINE takes effect (R170, R185): INIT with no final ZERO ends at once. -/
theorem test_up_transmit_complete :
    (run .upTransmitComplete { rig with timeBase := 77, upTx := some { frame := sample 0 0, resets := true } }).timeBase = 0 ∧
      (run .upTransmitComplete { rig with upTx := some { frame := sample 0 0, resets := true } }).engine = .ready := by
  decide +kernel

/-- INIT ends in ESTOP when ESTOP_N is low (R182). -/
theorem test_table_clear_complete :
    (run .tableClearComplete { State.reset with estopN := false }).engine = .estop := by
  decide +kernel

/-- A fall of RESET_N cuts the transmissions off (R183). -/
theorem test_reset_n_fall :
    (run .resetNFall { rig with upTx := some { frame := sample 0 0, resets := false } }).upTx = none := by
  decide +kernel

/-- The straps are sampled at the release (R183). -/
theorem test_reset_n_release :
    (run (.resetNRelease 3 true) { rig with resetN := false }).engineAddress = 0xF3 ∧
      (run (.resetNRelease 3 true) { rig with resetN := false }).engine = .init := by
  decide +kernel

/-- An emergency stop of a HELD channel under HOLD_AT_TRIP leaves it HELD with resume point TRANSITION (Section 11.6). -/
theorem test_estop_n_fall :
    ((run .estopNFall (rigAt 3 (chan .held { Sequencing.reset with resume := .step }))).chan 3).state = .held ∧
      ((run .estopNFall (rigAt 3 (chan .held { Sequencing.reset with resume := .step }))).chan 3).seq.resume = .transition := by
  decide +kernel

/-- A rise of ESTOP_N does not end ESTOP (R187). -/
theorem test_estop_n_rise :
    (run .estopNRise { rig with engine := .estop, estopN := false }).engine = .estop := by
  decide +kernel

/-- MAINT changes (R103). -/
theorem test_maint_change :
    (run (.maintChange true) rig).maint = true := by
  decide +kernel

/-- The time base wraps (R184). -/
theorem test_time_base_tick :
    (run .timeBaseTick { rig with timeBase := 4294967295 }).timeBase = 0 := by
  decide +kernel

/-- Code 0BH is not listed (R160). -/
theorem test_unknown_request :
    status (run .unknownRequest (asked rig [0x0B])) = some .unknownRequest := by
  decide +kernel

/-- The part code and revision come first (R161). -/
theorem test_identify :
    (run .identify (asked rig [1])).answers.head?.map (·.results) = some (bytes [0xC0, 0x32, 1, 0xF0, 1, 0]) := by
  decide +kernel

/-- Three STEP records fit one request, four do not (R162). -/
theorem test_read_table_step :
    ((run .readTableStep (asked rig [2, 1, 3, 253, 3])).job.map (·.left)) = some 3 ∧
      status (run .readTableStep (asked rig [2, 1, 0, 0, 4])) = some .badArgument := by
  decide +kernel

/-- Index 60 with count 5 leaves the table (R162). -/
theorem test_read_table_program :
    status (run .readTableProgram (asked rig [2, 2, 0, 60, 5])) = some .badArgument := by
  decide +kernel

/-- 28 segments from 2020 on are the last ones (R162). -/
theorem test_read_table_profile_seg :
    ((run .readTableProfileSeg (asked rig [2, 3, 7, 228, 28])).job.map (·.index)) = some 2020 := by
  decide +kernel

/-- 19 profile descriptors fit one request (R162). -/
theorem test_read_table_profile :
    ((run .readTableProfile (asked rig [2, 4, 0, 0, 19])).job.map (·.left)) = some 19 := by
  decide +kernel

/-- A limit set is read whatever the level of MAINT (R162, R164). -/
theorem test_read_table_limit :
    ((run .readTableLimit (asked rig [2, 5, 0, 0, 1])).answers.head?.map (fun a => a.results.take 6)) =
      some (bytes [1, 0, 140, 160, 229, 176]) := by
  decide +kernel

/-- An acceptance entry is four bytes, role and enable in the first (R164). -/
theorem test_read_table_accept :
    ((run .readTableAccept (asked rig [2, 6, 0, 1, 1])).answers.head?.map (·.results)) = some (bytes [0x11, 0x41, 0xFF, 0]) := by
  decide +kernel

/-- A configuration record begins with configured, stage and P (R164). -/
theorem test_read_table_config :
    ((run .readTableConfig (asked rig [2, 7, 0, 0, 1])).answers.head?.map (fun a => a.results.take 7)) =
      some (bytes [1, 20, 0, 10, 4, 8, 0]) := by
  decide +kernel

/-- Table code 8 is not defined (R162). -/
theorem test_read_table_undefined_table :
    status (run .readTableUndefinedTable (asked rig [2, 8, 0, 0, 1])) = some .badArgument := by
  decide +kernel

/-- An op code that is not listed fails the whole request (R43). -/
theorem test_write_table_step :
    status (run .writeTableStep (asked rig ([3, 1, 0, 0, 1, 6] ++ List.replicate 31 0))) = some .badArgument := by
  decide +kernel

/-- base + limit may be 1024 and no more (R45). -/
theorem test_write_table_program :
    (run .writeTableProgram (asked rig [3, 2, 0, 0, 1, 1, 3, 3, 255, 0, 1, 0, 0, 0, 0, 0, 0])).job.isSome = true ∧
      status (run .writeTableProgram (asked rig [3, 2, 0, 0, 1, 1, 3, 3, 255, 0, 2, 0, 0, 0, 0, 0, 0])) = some .badArgument := by
  decide +kernel

/-- A hold of 0 is refused (R49). -/
theorem test_write_table_profile_seg :
    status (run .writeTableProfileSeg (asked rig [3, 3, 0, 0, 1, 0, 5, 0, 0])) = some .badArgument := by
  decide +kernel

/-- A descriptor with valid 0 is not checked further (R50). -/
theorem test_write_table_profile :
    (run .writeTableProfile (asked rig [3, 4, 0, 31, 1, 0, 9, 255, 255, 255, 255])).job.isSome = true := by
  decide +kernel

/-- Check 3 precedes every other check of a LIMIT request (R163). -/
theorem test_write_table_limit :
    status (run .writeTableLimit (asked rig [3, 5])) = some .locked := by
  decide +kernel

/-- A second PRIMARY entry for a channel is a CONFLICT (R3). -/
theorem test_write_table_accept :
    status (run .writeTableAccept (asked rig [3, 6, 0, 9, 1, 1, 0x55, 0xFF, 5])) = some .conflict := by
  decide +kernel

/-- The configuration table is not written by WRITE_TABLE (R163). -/
theorem test_write_table_config :
    status (run .writeTableConfig (asked rig [3, 7])) = some .badArgument := by
  decide +kernel

/-- A WRITE_TABLE without a table code is too short (R163). -/
theorem test_write_table_undefined_table :
    status (run .writeTableUndefinedTable (asked rig [3])) = some .badLength := by
  decide +kernel

/-- A record with configured 0 needs no valid limit set and takes the power-on values (R124). -/
theorem test_configure :
    (run .configure (asked rig ([4, 0, 1, 0, 63] ++ List.replicate 14 255))).cfg 0 = ConfigRec.reset := by
  decide +kernel

/-- START of an unconfigured channel is BAD_CONFIG (Section 7.6, event 2). -/
theorem test_start :
    status (run .start (asked rig [4, 20, 2, 0, 0, 0])) = some .badConfig ∧
      ((run .start (asked rig [4, 0, 2, 0, 0, 8])).chan 0).seq.inFlight = true := by
  decide +kernel

/-- HOLD during a transition sets hold-pending and answers RUNNING (R131). -/
theorem test_hold :
    ((run .hold (asked (rigWith (chan .running moving)) [4, 0, 3])).answers.head?.map (·.results)) = some (bytes [0, 3, 1]) := by
  decide +kernel

/-- RESUME(1) sets grace (R133; Section 7.6, event 9). -/
theorem test_resume :
    ((run .resume (asked (rigWith (chan .held { Sequencing.reset with resume := .transition })) [4, 0, 4, 1])).chan 0).seq.grace =
      true := by
  decide +kernel

/-- STOP in OFF is WRONG_STATE (R134). -/
theorem test_stop :
    status (run .stop (asked rig [4, 0, 5])) = some .wrongState := by
  decide +kernel

/-- JUMP with a transition in flight is BUSY (Section 7.6, event 6). -/
theorem test_jump :
    status (run .jump (asked (rigWith (chan .running moving)) [4, 0, 6, 0, 3])) = some .busy := by
  decide +kernel

/-- CLEAR_FAULT is accepted in every state (R136). -/
theorem test_clear_fault :
    status (run .clearFault (asked (rigWith driving) [4, 0, 7])) = some .ok := by
  decide +kernel

/-- CLEAR_TOTALS of a RUNNING channel is WRONG_STATE (Section 7.6, event 11). -/
theorem test_clear_totals :
    status (run .clearTotals (asked (rigWith driving) [4, 0, 8])) = some .wrongState := by
  decide +kernel

/-- Command code 9 is not defined (R165). -/
theorem test_undefined_channel_command :
    status (run .undefinedChannelCommand (asked rig [4, 0, 9])) = some .badArgument := by
  decide +kernel

/-- READ_CHANNEL carries 50 bytes, the state second (R166). -/
theorem test_read_channel :
    ((run .readChannel (asked (rigWith driving) [5, 0])).answers.head?.map (fun a => (a.results.length, a.results.getD 1 9))) =
      some (50, 1) := by
  decide +kernel

/-- READ_ACCOUNTS carries 78 bytes (R167). -/
theorem test_read_accounts :
    ((run .readAccounts (asked rig [6, 31])).answers.head?.map (fun a => a.results.length)) = some 78 := by
  decide +kernel

/-- READ_FAULT of channel 32 is BAD_ARGUMENT (R168). -/
theorem test_read_fault :
    status (run .readFault (asked rig [7, 32])) = some .badArgument := by
  decide +kernel

/-- The counters come in the order of R169. -/
theorem test_read_counters :
    ((run .readCounters (asked { rig with link := { LinkCounters.reset with upCrc := 258 } } [8])).answers.head?.map
      (fun a => a.results.take 4)) = some (bytes [0, 0, 1, 2]) := by
  decide +kernel

/-- CLEAR_COUNTERS clears a channel counter too (R169). -/
theorem test_clear_counters :
    ((run .clearCounters (asked (rigWith { driving with track := { Tracking.reset with missed := 7 } }) [9])).chan 0).track.missed =
      0 := by
  decide +kernel

/-- After the answer no further request starts (R170). -/
theorem test_reset_engine :
    (run .resetEngine { rig with requests := [ask [10, 1], ask [1]] }).resetPending = true ∧
      (run .resetEngine { rig with requests := [ask [10, 1], ask [1]] }).requests = [ask [1]] := by
  decide +kernel

/-- CLEAR_ESTOP is refused while ESTOP_N is low (R171). -/
theorem test_clear_estop :
    status (run .clearEstop (asked { rig with engine := .estop, estopN := false } [10, 2])) = some .estop := by
  decide +kernel

/-- Engine command 3 is not defined (R170). -/
theorem test_undefined_engine_command :
    status (run .undefinedEngineCommand (asked rig [10, 3])) = some .badArgument := by
  decide +kernel

/-! ## A state for the hypotheses of every statement -/

/-- Frames of the routing statements. -/
def reqFrame (payload : List Nat) : Frame := frame 8 0xF0 payload

/-- The rig with the UP and the DN receiver armed. -/
def listening : State := { rig with upRx := .armed, dnRx := .armed }

/-- StepTakesFrontCommand: an empty queue. -/
theorem witness_StepTakesFrontCommand : State.reset.pending = [] := rfl

/-- DueWorkRunsFirst: a command that is no request, a due request of the row and of another row, and an engine with nothing
due. -/
theorem witness_DueWorkRunsFirst :
    (requestRowOf .timeBaseTick = none ∧ Instr.timeBaseTick ≠ .resetNFall ∧ requestRowOf .identify = some .identify) ∧
      ((asked rig [1]).executes (ask [1]) [] ∧ (ask [1]).row = .identify ∧ (ask [8]).row ≠ .identify) ∧
      ((asked rig [8]).executes (ask [8]) [] ∧ rig.attends) := by
  decide +kernel

/-- UpRouting, row by row: three and four requests waiting, a payload of one byte, INIT, an answer and a report for the engine's
own address, another address, and seven and eight frames in the U→D relay queue. -/
theorem witness_UpRouting :
    (listening.attends ∧ listening.listening .up ∧ soundFrame (reqFrame [9, 5]) ∧
        frameKind (reqFrame [9, 5]).byte0 = .mgmtReq ∧ (reqFrame [9, 5]).addr = listening.engineAddress ∧
        listening.engine ≠ .init ∧ (reqFrame [9, 5]).payload = 9 :: 5 :: []) ∧
      (({ listening with resetPending := true, requests := List.replicate 3 (ask [1]) } : State).attends ∧
        ({ listening with resetPending := true, requests := List.replicate 4 (ask [1]) } : State).attends) ∧
      (soundFrame (reqFrame [9]) ∧ (reqFrame [9]).payload.length ≤ 1) ∧
      (({ State.reset with upRx := .receiving } : State).attends ∧
        ({ State.reset with upRx := .receiving } : State).listening .up ∧ State.reset.engine = .init ∧
        2 ≤ (reqFrame [9, 5]).payload.length) ∧
      (soundFrame (frame 9 0xF0 []) ∧ frameKind (frame 9 0xF0 []).byte0 = .mgmtAns ∧ soundFrame (frame 10 0xF0 [1]) ∧
        frameKind (frame 10 0xF0 [1]).byte0 = .report ∧ (frame 10 0xF0 [1]).addr = listening.engineAddress) ∧
      (soundFrame (frame 8 0xF1 [1]) ∧ (frame 8 0xF1 [1]).addr ≠ listening.engineAddress ∧ soundFrame (sample 0x40 1) ∧
        frameKind (sample 0x40 1).byte0 = .sample ∧ soundFrame (frame 2 5 [1, 1, 0, 0]) ∧
        frameKind (frame 2 5 [1, 1, 0, 0]).byte0 = .setpoint ∧ frameKind (frame 5 0xF0 [1]).byte0 = .transit) ∧
      (({ listening with relayDown := List.replicate 7 (sample 1 1) } : State).attends ∧
        ({ listening with relayDown := List.replicate 8 (sample 1 1) } : State).attends) := by
  decide +kernel

/-- DnRouting: a tag that entry 0 claims for a configured channel, one that entry 3 claims for an unconfigured channel, one that
no entry claims, a transit frame, INIT, and 15 and 16 frames in the D→U relay queue. -/
theorem witness_DnRouting :
    (listening.attends ∧ listening.listening .dn ∧ soundFrame (sample 0x40 1) ∧ frameKind (sample 0x40 1).byte0 = .sample ∧
        listening.engine ≠ .init ∧ (listening.acceptEntry 0).enable = true ∧
        (sample 0x40 1).addr &&& (listening.acceptEntry 0).mask =
          (listening.acceptEntry 0).tag &&& (listening.acceptEntry 0).mask ∧
        (listening.cfg (listening.acceptEntry 0).channel).configured = true) ∧
      ((listening.acceptEntry 3).enable = true ∧
        (sample 0x43 1).addr &&& (listening.acceptEntry 3).mask =
          (listening.acceptEntry 3).tag &&& (listening.acceptEntry 3).mask ∧
        (∀ j, j < 3 → ¬ ((listening.acceptEntry j).enable = true ∧
          (sample 0x43 1).addr &&& (listening.acceptEntry j).mask =
            (listening.acceptEntry j).tag &&& (listening.acceptEntry j).mask)) ∧
        (listening.cfg (listening.acceptEntry 3).channel).configured = false) ∧
      (soundFrame (sample 0x50 1) ∧ ∀ i, i < 64 → ¬ ((listening.acceptEntry i).enable = true ∧
        (sample 0x50 1).addr &&& (listening.acceptEntry i).mask =
          (listening.acceptEntry i).tag &&& (listening.acceptEntry i).mask)) ∧
      (soundFrame (frame 5 7 [1]) ∧ frameKind (frame 5 7 [1]).byte0 ≠ .sample) ∧
      (({ State.reset with dnRx := .armed } : State).attends ∧ ({ State.reset with dnRx := .armed } : State).listening .dn) ∧
      (({ listening with relayUp := List.replicate 15 (sample 1 1) } : State).attends ∧
        ({ listening with relayUp := List.replicate 16 (sample 1 1) } : State).attends) := by
  decide +kernel

/-- ReceiverRows: armed and hunting receivers, a frame with a wrong CRC, and headers of length 121, 9 and 5. -/
theorem witness_ReceiverRows :
    (listening.attends ∧ listening.listening .up ∧ listening.listening .dn) ∧
      (({ sample 0x40 1 with crc := 0 } : Frame).wf = true ∧ crcOk { sample 0x40 1 with crc := 0 } = false) ∧
      (headerMalformed 0x50 (121 : Byte).toNat = true ∧ headerMalformed 0x10 (9 : Byte).toNat = true ∧
        headerMalformed 0x20 (5 : Byte).toNat = true) ∧
      (rig.attends ∧ rig.upRx = .hunt true ∧ rig.dnRx = .hunt true) ∧
      (({ rig with upRx := .hunt false, dnRx := .hunt false } : State).attends) := by
  decide +kernel

/-- A channel that drives, with a reference. -/
def tracked (reference : Byte) (last : Tick) : Channel :=
  { driving with track := { Tracking.reset with
      reference := some reference, lastArrival := some last, lastPrimary := some { v := 51230, i := 100, t := some 312 } } }

/-- FirstAndDiscardedSamples: the reference repeated, a sample 128 behind, and a sample without a reference. -/
theorem witness_FirstAndDiscardedSamples :
    (({ rigWith (tracked 7 0) with dnRx := .armed } : State).takesSample (sample 0x40 7) 0 .primary ∧
        (({ rigWith (tracked 7 0) with dnRx := .armed } : State).chan 0).track.reference = some 7 ∧
        (sample 0x40 7).payload.getD 0 0 = 7) ∧
      (({ rigWith (tracked 7 0) with dnRx := .armed } : State).takesSample (sample 0x40 135) 0 .primary ∧
        ((sample 0x40 135).payload.getD 0 0 - 7).toNat = 128) ∧
      (({ rigWith driving with dnRx := .armed } : State).takesSample (sample 0x40 7) 0 .primary ∧
        (({ rigWith driving with dnRx := .armed } : State).chan 0).track.reference = none) := by
  decide +kernel

/-- AcceptedSamples: differences of 1, of the gap limit 4, of 5 and of 127; and the stuck comparison at counts 30 and 31, at a
current of 49 and 50, with the latch set and clear, and with a reading that moves. -/
theorem witness_AcceptedSamples :
    (({ rigWith (tracked 7 0) with dnRx := .armed } : State).takesSample (sample 0x40 8) 0 .primary ∧
        (({ rigWith (tracked 7 0) with dnRx := .armed } : State).chan 0).track.lastArrival = some 0 ∧
        ((readSample (sample 0x40 8).payload).seq - 7).toNat = 1) ∧
      (({ rigWith (tracked 7 0) with dnRx := .armed } : State).takesSample (sample 0x40 134) 0 .primary ∧
        ((readSample (sample 0x40 134).payload).seq - 7).toNat = 127 ∧ ((11 : Byte) - 7).toNat = 4 ∧
        ((12 : Byte) - 7).toNat = 5 ∧ (rig.cfg 0).gapLimit = 4) ∧
      ((tracked 7 0).track.stuckLatch = false ∧ (tracked 7 0).track.lastPrimary.map (·.v) = some 51230 ∧
        ({ (tracked 7 0).track with stuckCount := 30 } : Tracking).stuckCount < 31 ∧ 50 ≤ (50 : Int).natAbs ∧
        (49 : Int).natAbs < 50 ∧ (tracked 7 0).track.lastPrimary.map (·.v) ≠ some 51231) ∧
      (({ (tracked 7 0).track with stuckCount := 31 } : Tracking).stuckCount = 31 ∧
        ({ (tracked 7 0).track with stuckCount := 32, stuckLatch := true } : Tracking).stuckLatch = true) := by
  decide +kernel

/-- AuxAndCheckFrames: an AUX frame with and without a temperature, a CHECK frame 150 mV and 151 mV away from the last reading,
one without a last reading, and a freshness timer that expires now. -/
theorem witness_AuxAndCheckFrames :
    (listening.takesSample (sample 0x41 1) 0 .aux ∧ (readSample (sample 0x41 1).payload).t = some 312 ∧
        listening.takesSample (frame 1 0x41 [1, 0, 0, 0, 0, 128, 0, 0]) 0 .aux ∧
        (readSample (frame 1 0x41 [1, 0, 0, 0, 0, 128, 0, 0]).payload).t = none) ∧
      (({ rigWith (tracked 7 0) with dnRx := .armed } : State).takesSample (frame 1 0x42 [1, 200, 181, 0, 0, 0, 0, 0]) 0 .check ∧
        (readSample (frame 1 0x42 [1, 200, 181, 0, 0, 0, 0, 0]).payload).v = 51381 ∧ (rig.limits 0).valid = true ∧
        (rig.limits 0).tolerance = 150 ∧ ((51381 : Int) - 51230).natAbs = 151 ∧
        (readSample (frame 1 0x42 [1, 200, 180, 0, 0, 0, 0, 0]).payload).v = 51380) ∧
      (listening.takesSample (sample 0x42 1) 0 .check ∧ (listening.chan 0).track.lastPrimary = none) ∧
      ((rigWith { driving with track := { Tracking.reset with aux := some (5, 0), auxFresh := true, auxTimer := some 0 } }).attends ∧
        ((rigWith { driving with track := { Tracking.reset with
          aux := some (5, 0), auxFresh := true, auxTimer := some 0 } }).chan 0).track.auxTimer =
            some (rigWith driving).timeBase) := by
  decide +kernel

/-- AccountingByState: an OFF, a RUNNING and a HELD channel. -/
theorem witness_AccountingByState :
    (rig.chan 0).state = .off ∧ ((rigWith driving).chan 0).state = .running ∧
      ((rigWith (chan .held Sequencing.reset)).chan 0).state = .held := by
  decide +kernel

/-- LifetimeTotalsAreExact: the totals after one delivery in RUNNING and one in OFF are below their largest values. -/
theorem witness_LifetimeTotalsAreExact :
    ([(ChState.running, clean, 10), (.off, clean, 10)].foldl (fun a x => a.account x.1 x.2.1 x.2.2) Accounts.reset).qlIn = 1000 ∧
      (1000 : Nat) < Config.max64 ∧
      ([(ChState.running, clean, 10), (.off, clean, 10)].foldl (fun a x => a.account x.1 x.2.1 x.2.2) Accounts.reset).elIn = 51 := by
  decide +kernel

/-- ReportFields: a cycle with and without charge put in, one whose efficiency leaves its field, and totals of both signs. -/
theorem witness_ReportFields :
    Accounts.reset.qcIn = 0 ∧ 0 < ({ Accounts.reset with qcIn := 1, qcOut := 7 } : Accounts).qcIn ∧
      65535 < 10000 * 7 / 1 ∧ (0 : Int) ≤ 1800 ∧ (-1800 : Int) < 0 := by
  decide +kernel

/-- RecordsReadBack: well-formed records of every form, at the ends of their ranges. -/
theorem witness_RecordsReadBack :
    (({ record .loop 65535 1023 0 with slot1 := slot .time .goto 1023 4294967295 } : StepRecord).wf ∧
        ({ record .cc (-32768) 0 0 with slot1 := slot .tempAbove .brk 0 (-32767) } : StepRecord).wf ∧ StepRecord.reset.wf) ∧
      (ProgramDesc.wf { program with base := 1023, limit := 1 } ∧ ProgramDesc.reset.wf) ∧
      (Segment.wf { current := -32768, hold := 1 } ∧ Segment.wf { current := 32767, hold := 65535 } ∧
        fitsS16 Segment.reset.current ∧ fitsU16 Segment.reset.hold ∧ ¬ Segment.reset.wf) ∧
      (ProfileDesc.wf { valid := true, first := 2047, count := 1, rep := .wrap } ∧ ProfileDesc.reset.wf) ∧
      (limits.wf ∧ LimitSet.reset.wf) ∧
      (ConfigRec.wf { config .holdAtTrip true with stage := 63, period := 10000, gapLimit := 16, silenceMult := 64, limitSet := 15 } ∧
        ConfigRec.reset.wf) := by
  refine ⟨⟨?_, ?_, ?_⟩, ⟨?_, ?_⟩, ⟨?_, ?_, ?_⟩, ⟨?_, ?_⟩, ⟨?_, ?_⟩, ?_, ?_⟩ <;> decide +kernel

/-- WriteChecks: bytes of each form that pass, and bytes whose first is 0; and for each form bytes that its checks refuse: a
step record with an undefined op, kind or action, a flags byte above 3 or a target above 1023, and an undefined code or a value
other than 0 and 1 in the others. -/
theorem witness_WriteChecks :
    ((readStep (stepBytes (record .rest 0 0 0))).isSome = true ∧ (readProgram (programBytes program)).isSome = true ∧
      (readSegment (bytes [0, 5, 0, 1])).isSome = true ∧ (readProfile (bytes [1, 1, 7, 255, 0, 1])).isSome = true ∧
      (readLimit (limitBytes limits)).isSome = true ∧ (readConfig (configBytes (config .auto false))).isSome = true ∧
      (readAccept (bytes [0x21, 0x40, 0xFF, 31])).isSome = true ∧ u8At (bytes [0, 99]) 0 = 0 ∧
      (stepBytes (record .rest 0 0 0)).length = 32 ∧ (configBytes (config .auto false)).length = 16) ∧
      (∀ x ∈ [(0, 6), (0, 13), (1, 4), (11, 0x90), (18, 0x05), (25, 0x0F), (12, 4), (17, 1)],
        readStep ((stepBytes (record .rest 0 0 0)).set x.1 (BitVec.ofNat 8 x.2)) = none) ∧
      (∀ x ∈ [(0, 2), (1, 4)], readProgram ((programBytes program).set x.1 (BitVec.ofNat 8 x.2)) = none) ∧
      readSegment (bytes [0, 5, 0, 0]) = none ∧ readProfile (bytes [1, 2, 7, 255, 0, 1]) = none ∧
      (∀ x ∈ [(0, 2), (1, 2)], readLimit ((limitBytes limits).set x.1 (BitVec.ofNat 8 x.2)) = none) ∧
      (∀ l ∈ [[0x02, 0, 0, 0], [0x30, 0, 0, 0], [0x21, 0, 0, 32]], readAccept (bytes l) = none) ∧
      ∀ x ∈ [(0, 2), (7, 4), (8, 2), (9, 2), (10, 2)],
        readConfig ((configBytes (config .auto false)).set x.1 (BitVec.ofNat 8 x.2)) = none := by
  refine ⟨?_, ?_, ?_, ?_, ?_, ?_, ?_, ?_⟩ <;> decide +kernel

/-- PortRequestsStart: a request of each of the eight rows in its turn. -/
theorem witness_PortRequestsStart :
    (asked rig [2, 1, 0, 0, 3]).executes (ask [2, 1, 0, 0, 3]) [] ∧ (ask [2, 1, 0, 0, 3]).row = .readTableStep ∧
      (ask [2, 2, 0, 0, 9]).row = .readTableProgram ∧ (ask [2, 3, 0, 0, 28]).row = .readTableProfileSeg ∧
      (ask [2, 4, 0, 0, 19]).row = .readTableProfile ∧ (ask [3, 1]).row = .writeTableStep ∧
      (ask [3, 2]).row = .writeTableProgram ∧ (ask [3, 3]).row = .writeTableProfileSeg ∧
      (ask [3, 4]).row = .writeTableProfile := by
  decide +kernel

/-- A table request in execution with an access in progress. -/
def accessing (t : PortTable) (write : Bool) (left : Nat) (data : List Byte) : State :=
  { rig with
    port := .access, requests := [ask [3, 1]]
    job := some { table := t, write := write, index := t.size - left, left := left, data := data, out := [] } }

/-- AccessesComplete: a read and a write of each table, with one and with two accesses left, ending at the table's last record. -/
theorem witness_AccessesComplete :
    ((accessing .step false 1 []).resetN = true ∧ (accessing .step false 1 []).port = .access ∧
        (accessing .step false 1 []).requests = ask [3, 1] :: [] ∧ (accessing .step false 1 []).tablesWf ∧
        (accessing .step false 1 []).jobOk ∧ (accessing .step false 2 []).jobOk) ∧
      ((accessing .step true 1 []).jobOk ∧ (readStep ((stepBytes (record .rest 0 0 0)).take 32)).isSome = true) ∧
      ((accessing .program true 2 []).jobOk ∧ (readProgram ((programBytes program).take 12)).isSome = true) ∧
      ((accessing .segment true 1 []).jobOk ∧ (readSegment ((bytes [0, 5, 0, 1]).take 4)).isSome = true) ∧
      ((accessing .profile true 1 []).jobOk ∧ (readProfile ((bytes [1, 1, 7, 255, 0, 1]).take 6)).isSome = true) := by
  decide +kernel

/-- PortAlternation: a channel that waits for its fetch with no management access and with one after a management access, at
chain counts 15 and 16 and at the last index and the limit; and a management access alone and after a fetch. -/
theorem witness_PortAlternation :
    (({ rigWith (chan .running { moving with chain := 15, index := 8 }) with fetchQueue := [0] } : State).dueRequest = none ∧
        ({ rigWith (chan .running { moving with chain := 15, index := 8 }) with fetchQueue := [0] } : State).port = .free ∧
        ((rigWith (chan .running { moving with chain := 15, index := 8 })).chan 0).seq.cache = some cache ∧ cache.limit = 9) ∧
      (({ rigWith (chan .running { moving with chain := 16 }) with fetchQueue := [0] } : State).job = none ∧
        ({ rigWith (chan .running { moving with index := 9 }) with fetchQueue := [0] } : State).portLast = .management) ∧
      (({ accessing .step false 1 [] with port := .free, fetchQueue := [0], portLast := .fetch } : State).resetN = true ∧
        ({ accessing .step false 1 [] with port := .free } : State).fetchQueue = [] ∧
        ({ accessing .step false 1 [] with port := .free } : State).job.isSome = true) := by
  decide +kernel

/-- FetchStops: a discarded fetch, and live ones that found the chain limit, the bound and an INVALID record. -/
theorem witness_FetchStops :
    (({ rig with port := .fetch 0 .bound false } : State).resetN = true ∧
        ({ rig with port := .fetch 0 .bound false } : State).dueRequest = none) ∧
      (({ rigWith (chan .running moving) with port := .fetch 0 .chain true } : State).dueRequest = none ∧
        ({ rigWith (chan .running moving) with port := .fetch 0 .bound true } : State).dueRequest = none) ∧
      ((fetching StepRecord.reset).port = .fetch 0 (.read 3) true ∧ (fetching StepRecord.reset).dueRequest = none ∧
        ((fetching StepRecord.reset).stepRec 3).op = .invalid) := by
  decide +kernel

/-- LoopRecords: a LOOP record, an ENDLOOP record under an empty stack and under its own LOOP frame on its last pass, on the one
before, and with the cycle flag. -/
theorem witness_LoopRecords :
    ((fetching (record .loop 500 7 0)).resetN = true ∧ (fetching (record .loop 500 7 0)).dueRequest = none ∧
        (fetching (record .loop 500 7 0)).port = .fetch 0 (.read 3) true ∧
        ((fetching (record .loop 500 7 0)).stepRec 3).op = .loop) ∧
      (((fetching (record .endloop 0 0 0)).stepRec 3).op = .endloop ∧
        ((fetching (record .endloop 0 0 0)).chan 0).seq.stack = []) ∧
      (((fetched (rigWith (chan .running { moving with stack := [.loopFrame 1 1 1 true] })) (record .endloop 0 0 0)).chan 0).seq.stack =
          .loopFrame 1 1 1 true :: [] ∧
        ((fetched (rigWith (chan .running { moving with stack := [.loopFrame 1 1 2 false] })) (record .endloop 0 0 0)).chan 0).seq.stack =
          .loopFrame 1 1 2 false :: [] ∧
        (fetched (rigWith (chan .running { moving with stack := [.loopFrame 1 1 1 true] })) (record .endloop 0 0 0)).dueRequest =
          none) := by
  decide +kernel

/-- LoopRecords, the ENDLOOP record without a LOOP frame of its index on top: an empty stack. -/
theorem witness_LoopRecords_nesting (start n : Nat) (cy : Bool) (rest : List StackFrame) :
    ((fetching (record .endloop 0 0 0)).chan 0).seq.stack ≠
      .loopFrame start ((fetching (record .endloop 0 0 0)).chan 0).seq.index n cy :: rest := by
  rw [witness_LoopRecords.2.1.2]
  simp

/-- CallReturnEndRecords: a CALL, a RETURN under an empty stack and under two loops on a CALL frame, and an END record. -/
theorem witness_CallReturnEndRecords :
    ((fetching (record .call 0 0 0)).resetN = true ∧ (fetching (record .call 0 0 0)).dueRequest = none ∧
        (fetching (record .call 0 0 0)).port = .fetch 0 (.read 3) true ∧
        ((fetching (record .call 0 0 0)).stepRec 3).op = .call) ∧
      (((fetching (record .ret 0 0 0)).stepRec 3).op = .ret ∧ ((fetching (record .ret 0 0 0)).chan 0).seq.stack = []) ∧
      (((fetched (rigWith (chan .running { moving with
          stack := [.loopFrame 1 3 9 false, .loopFrame 0 4 2 true, .callFrame 0 1] })) (record .ret 0 0 0)).chan 0).seq.stack =
        [.loopFrame 1 3 9 false, .loopFrame 0 4 2 true] ++ .callFrame 0 1 :: []) ∧
      ((fetching (record .endProgram 0 0 0)).dueRequest = none ∧
        ((fetching (record .endProgram 0 0 0)).stepRec 3).op = .endProgram) := by
  decide +kernel

/-- CallReturnEndRecords: no frame of the empty stack and neither of the two loops is a CALL frame. -/
theorem witness_CallReturnEndRecords_frames :
    (∀ f, f ∈ ((fetching (record .ret 0 0 0)).chan 0).seq.stack → ∀ sel idx, f ≠ .callFrame sel idx) ∧
      ∀ f, f ∈ [StackFrame.loopFrame 1 3 9 false, .loopFrame 0 4 2 true] → ∀ a b, f ≠ .callFrame a b := by
  rw [witness_CallReturnEndRecords.2.1.2]
  simp

/-- DriveRecords: a drive record of each op under a cache, with hold-pending and with a delivery waiting. -/
theorem witness_DriveRecords :
    (∀ op ∈ [StepOp.rest, .cc, .cp, .cccv, .profile],
        (fetching (record op 1 0 1)).resetN = true ∧ (fetching (record op 1 0 1)).dueRequest = none ∧
          (fetching (record op 1 0 1)).port = .fetch 0 (.read 3) true ∧
          record op 1 0 1 = (fetching (record op 1 0 1)).stepRec 3 ∧
          ((fetching (record op 1 0 1)).chan 0).seq.cache = some cache) ∧
      ((fetched (rigWith (chan .running { moving with holdPending := some .program, pendingEval := some clean }))
          (record .cc 1 0 0)).dueRequest = none ∧
        ((fetched (rigWith (chan .running { moving with holdPending := some .program })) (record .cc 1 0 0)).chan 0).seq.cache =
          some cache) := by
  decide +kernel

/-- A step that a TIME terminator of each action ends at once. -/
def ending (action : TermAction) : StepRecord :=
  { record .cc 5000 0 0 with report := true, slot1 := slot .time action 4 0 }

/-- TerminatorActions: each action, BREAK with a LOOP frame on top and with an empty stack. -/
theorem witness_TerminatorActions :
    (∀ action ∈ [TermAction.next, .goto, .hold, .brk, .endProgram],
        ((rigWith (chan .running (stepping (ending action)))).chan 0).seq.stepCopy = some (ending action) ∧
          ((rigWith (chan .running (stepping (ending action)))).chan 0).seq.grace = false ∧
          firedSlot (ending action) clean ((rigWith (chan .running (stepping (ending action)))).chan 0).acct
            (peakWith none clean.v) = some (.slot1, slot .time action 4 0)) ∧
      ((rigWith (chan .running { stepping (ending .brk) with stack := [.loopFrame 1 3 9 true] })).chan 0).seq.stack =
        .loopFrame 1 3 9 true :: [] ∧
      ((rigWith (chan .running (stepping (ending .brk)))).chan 0).seq.stack = [] := by
  decide +kernel

/-- TerminatorActions: the empty stack has no LOOP frame on top. -/
theorem witness_TerminatorActions_nesting (start finish n : Nat) (cy : Bool) (rest : List StackFrame) :
    ((rigWith (chan .running (stepping (ending .brk)))).chan 0).seq.stack ≠ .loopFrame start finish n cy :: rest := by
  rw [witness_TerminatorActions.2.2]
  simp

/-- TerminatorTests: the first, the second, the third and no slot fires. -/
theorem witness_TerminatorTests :
    firedSlot (ending .next) clean Accounts.reset 51230 = some (.slot1, slot .time .next 4 0) ∧
      firedSlot { record .cc 0 0 0 with slot2 := slot .vAbove .next 0 51230 } clean Accounts.reset 51230 =
        some (.slot2, slot .vAbove .next 0 51230) ∧
      firedSlot { record .cc 0 0 0 with slot3 := slot .iAbsBelow .next 0 100 } clean Accounts.reset 51230 =
        some (.slot3, slot .iAbsBelow .next 0 100) ∧
      firedSlot { record .cc 0 0 0 with guard := 1, slot1 := slot .vAbove .next 0 0 } clean Accounts.reset 51230 = none := by
  decide +kernel

/-- TerminatorTests: the predicate that the statement names exists for every record, delivery, account and peak. -/
theorem witness_TerminatorTests_fires (r : StepRecord) (a : Accounts) (cond : Terminator → Prop) :
    ∃ fires : Terminator → Prop, ∀ tm, fires tm ↔ (r.guard ≤ a.ts ∨ tm.kind = .time) ∧ cond tm :=
  ⟨fun tm => (r.guard ≤ a.ts ∨ tm.kind = .time) ∧ cond tm, fun _ => Iff.rfl⟩

/-- EvaluationDrives: a step of each op but PROFILE, evaluated with no slot fired and with a slot that fires under grace, at
NORMAL and DERATED. -/
theorem witness_EvaluationDrives :
    (∀ op ∈ [StepOp.rest, .cc, .cp, .cccv],
        ((rigWith (chan .running (stepping (record op 1 0 1)))).chan 0).seq.stepCopy = some (record op 1 0 1) ∧
          ((rigWith (chan .running (stepping (record op 1 0 1)))).chan 0).seq.cache = some cache ∧
          (record op 1 0 1).op ≠ .profile ∧
          firedSlot (record op 1 0 1) clean ((rigWith (chan .running (stepping (record op 1 0 1)))).chan 0).acct
            (peakWith none clean.v) = none) ∧
      ((rigWith (chan .running { stepping (ending .next) with grace := true })).chan 0).seq.grace = true ∧
      ((rigWith (scored .running 128)).chan 0).sup.level = .derated := by
  decide +kernel

/-- ProfileCursorLands: a profile of two segments with the step time on the last tick of a segment and on the first of the next,
with the ordinal below and at the count, under ONCE and WRAP. -/
theorem witness_ProfileCursorLands :
    1 ≤ (rig.profileDesc 0).count ∧ rig.segmentWrite = none ∧ 19 < 0 + max 1 (rig.segment (0 + 0)).hold ∧
      0 + max 1 (rig.segment (0 + 0)).hold ≤ 20 ∧ (rig.profileDesc 0).count ≤ 2 ∧ (rig.profileDesc 0).rep = .wrap ∧
      (profileAdvance { rig.profileDesc 0 with rep := .once } 30 (profileFuel 30 0) rig 0 0).ended = true ∧
      (profileAdvance (rig.profileDesc 0) 19 (profileFuel 19 0) rig 0 0).current = 5000 ∧
      profileAdvance (rig.profileDesc 0) 20 (profileFuel 20 0) rig 0 0 =
        { ended := false, ordinal := 1, start := 20, current := -5000, after := rig } := by
  decide +kernel

/-- ProfileCursorLands, the landings: segment writes with one and with two records left, the port busy with the first of them, or
free after a fetch while another fetch waits. -/
theorem witness_ProfileCursorLands_landing :
    (∀ n ∈ [1, 2], ∀ q ∈ ([[], [0]] : List (List ChanId)),
        ∀ s ∈ ([{ accessing .segment true n (bytes [0, 5, 0, 1, 0, 6, 0, 2]) with fetchQueue := q },
            { accessing .segment true n (bytes [0, 5, 0, 1, 0, 6, 0, 2]) with
              port := .free, portLast := .fetch, fetchQueue := q }] : List State),
          s.segmentWrite = s.job ∧ s.job.isSome = true ∧ s.requests = ask [3, 1] :: [] ∧ s.managementOk ∧ s.jobOk ∧
            s.tablesWf) ∧
      (accessing .profile true 1 []).segmentWrite = none ∧ (accessing .segment false 1 []).segmentWrite = none := by
  decide +kernel

/-- One landing (R52, R53): of two segment writes the first replaces its record and the job goes on to the second. -/
theorem test_segment_write_lands :
    (accessing .segment true 2 (bytes [0, 5, 0, 1, 0, 6, 0, 2])).landWrite.segment 2046 = { current := 5, hold := 1 } ∧
      (accessing .segment true 2 (bytes [0, 5, 0, 1, 0, 6, 0, 2])).landWrite.segment 2047 = Segment.reset := by
  decide +kernel

/-- ProfileEvaluation: a PROFILE step under a valid and under an invalid descriptor. -/
theorem witness_ProfileEvaluation :
    ((rigWith (chan .running (stepping (record .profile 0 0 0)))).chan 0).seq.stepCopy = some (record .profile 0 0 0) ∧
      ((rigWith (chan .running (stepping (record .profile 0 0 0)))).chan 0).seq.cache = some cache ∧
      firedSlot (record .profile 0 0 0) clean ((rigWith (chan .running (stepping (record .profile 0 0 0)))).chan 0).acct
        (peakWith none clean.v) = none ∧
      (rig.profileDesc 0).valid = true ∧ (rig.profileDesc 1).valid = false := by
  decide +kernel

/-- A frame of a slot. -/
def spFrame (cmd : SpCommand) (final : Bool) : SpFrame :=
  { stage := 20, command := cmd, current := 0, rep := false, final := final }

/-- A channel whose slot holds a pending frame that joined at number `n`. -/
def slotted (cmd : SpCommand) (n : Nat) : Channel :=
  { driving with sp := { Setpoint.reset with pending := some (spFrame cmd false), since := some n } }

/-- DnTransmitStarts: an OPEN that is older than another OPEN; a ZERO that is older than a RUN, with a relay frame and a wait
count of 7; the relay queue at a wait count of 8 and with no slot pending; and nothing to send. -/
theorem witness_DnTransmitStarts :
    (((rigWith (slotted .openPath 3)).setChan 1 (slotted .openPath 4)).attends ∧
        ((rigWith (slotted .openPath 3)).setChan 1 (slotted .openPath 4)).dnTx = none ∧
        ∀ d, d ≠ 0 →
          (((rigWith (slotted .openPath 3)).setChan 1 (slotted .openPath 4)).chan d).sp.pending.any
            (fun g => g.command == .openPath) = true →
          (((rigWith (slotted .openPath 3)).setChan 1 (slotted .openPath 4)).chan 0).sp.since.getD 0 <
            (((rigWith (slotted .openPath 3)).setChan 1 (slotted .openPath 4)).chan d).sp.since.getD 0) ∧
      (({ (rigWith (slotted .zero 3)).setChan 1 (slotted .run 4) with relayWait := 7, relayDown := [sample 1 1] } : State).attends ∧
        (∀ d, (((rigWith (slotted .zero 3)).setChan 1 (slotted .run 4)).chan d).sp.pending.any
          (fun g => g.command == .openPath) = false) ∧
        ∀ d, d ≠ 0 → (((rigWith (slotted .zero 3)).setChan 1 (slotted .run 4)).chan d).sp.pending.isSome = true →
          (((rigWith (slotted .zero 3)).setChan 1 (slotted .run 4)).chan 0).sp.since.getD 0 <
            (((rigWith (slotted .zero 3)).setChan 1 (slotted .run 4)).chan d).sp.since.getD 0) ∧
      ({ rigWith (slotted .zero 3) with relayWait := 8, relayDown := [sample 1 1] } : State).attends ∧
      (rig.attends ∧ rig.dnTx = none ∧ rig.relayDown = [] ∧ ∀ d, (rig.chan d).sp.pending = none) := by
  decide +kernel

/-- A state in which the frame of channel 0 is in transmission at DN. -/
def transmitting (s : State) (f : SpFrame) : State :=
  { s.modSp 0 (fun sp => { sp with inTx := some (f, 5) }) with dnTx := some { frame := sample 0 0, channel := some 0 } }

/-- DnCompletionAndRefresh: the completion of a relay frame, of a setpoint frame, of a final ZERO and of a frame that an engine
reset has taken out of its slot; a refresh timer that expires now with the slot empty and with a frame pending, and one that
does not. -/
theorem witness_DnCompletionAndRefresh :
    (({ rig with dnTx := some { frame := sample 0 0, channel := none } } : State).attends ∧
        ({ rig with dnTx := some { frame := sample 0 0, channel := some 0 } } : State).attends ∧ (rig.chan 0).sp.inTx = none) ∧
      ((transmitting (rigWith driving) (spFrame .run false)).attends ∧
        ((transmitting (rigWith driving) (spFrame .run false)).chan 0).sp.inTx = some (spFrame .run false, 5) ∧
        (spFrame .run false).final = false) ∧
      ((transmitting { rig with engine := .init } (spFrame .zero true)).attends ∧ (spFrame .zero true).final = true) ∧
      ((rigWith { driving with sp := { Setpoint.reset with
          refresh := some 0, lastTx := some { stage := 9, command := .zero, current := 0 } } }).attends ∧
        (rig.cfg 0).shadow = false) ∧
      ((rigWith { driving with sp := { Setpoint.reset with refresh := some 0 } }).attends ∧
        ((rigWith driving).chan 0).sp.refresh ≠ some (rigWith driving).timeBase) := by
  decide +kernel

/-- One of the records a channel reports. -/
def report : Record :=
  { channel := 0, tick := 0, dropped := none, body := .state { old := .off, new := .running, level := .normal, reason := .command } }

/-- UpTransmissions: an answer waiting; a report alone, and with a relay frame after a relay frame; a relay frame alone, and with
a report after a report; nothing to send; and a frame in transmission. -/
theorem witness_UpTransmissions :
    (({ rig with answers := [{ tag := 1, code := 5, status := .ok, results := [], resets := false }] } : State).attends ∧
        rig.upTx = none) ∧
      (({ rig with reports := [report] } : State).attends ∧
        ({ rig with reports := [report], relayUp := [sample 1 1] } : State).attends ∧ rig.upServed = .relay) ∧
      (({ rig with relayUp := [sample 1 1] } : State).attends ∧
        ({ rig with reports := [report], relayUp := [sample 1 1], upServed := .report } : State).attends) ∧
      (rig.attends ∧ rig.answers = [] ∧ rig.reports = [] ∧ rig.relayUp = []) ∧
      ({ rig with upTx := some { frame := sample 1 1, resets := false } } : State).attends := by
  decide +kernel

/-- SlotAndReportOffers: an empty slot, one with an OPEN and one with a ZERO pending; and 119, 120, 127 and 128 records in the
report queue. -/
theorem witness_SlotAndReportOffers :
    (Setpoint.reset.pending = none ∧ (slotted .openPath 0).sp.pending = some (spFrame .openPath false) ∧
        (spFrame .zero false).command ≠ .openPath) ∧
      ((List.replicate 119 report).length < 120 ∧ 120 ≤ (List.replicate 120 report).length ∧
        (List.replicate 127 report).length < 128 ∧ 128 ≤ (List.replicate 128 report).length) := by
  decide +kernel

/-- DeliveryScored: HELD and RUNNING channels with a delivery without any cause, at the edge of a band; a COMPLETE one at score
248 with a soft kind and a hard kind; and an OFF one. -/
theorem witness_DeliveryScored :
    (((rigWith (scored .held 63)).chan 0).state = .held ∧ ((rigWith (scored .held 63)).chan 0).sup.level = band 63 ∧
        ((rigWith (scored .running 64)).chan 0).state = .running ∧
        ((rigWith (scored .running 64)).chan 0).sup.level = band 64 ∧
        hardKinds limits clean ++ (if 255 < 63 + 8 * softCount limits clean ∧ 0 < softCount limits clean then [.score] else []) =
          [] ∧
        hardKinds limits { clean with gap := true } ++
            (if 255 < 247 + 8 * softCount limits { clean with gap := true } ∧
                0 < softCount limits { clean with gap := true } then [.score] else []) = [] ∧
        ((rigWith (scored .running 247)).chan 0).sup.level = band 247) ∧
      (((rigWith (scored .complete 248)).chan 0).state = .complete ∧
        hardKinds limits { clean with gap := true, v := 58801 } ++
            (if 255 < 248 + 8 * softCount limits { clean with gap := true, v := 58801 } ∧
                0 < softCount limits { clean with gap := true, v := 58801 } then [.score] else []) =
          Cause.vHard :: [.score]) ∧
      (rig.chan 0).state = .off := by
  decide +kernel

/-- DeliveryTrips: a RUNNING channel with a hard kind, and one at score 248 whose soft kind raises SCORE; and for the sequencer a
channel with a transition in flight, its slot empty and full with LOST_EVAL at the top, one without, and one that is HELD. -/
theorem witness_DeliveryTrips :
    (((rigWith driving).chan 0).state = .running ∧ ((rigWith driving).chan 0).sup.level = band 0 ∧
        Cause.stuck :: [] = hardKinds limits { clean with stuck := true } ++
          (if 255 < 0 + 8 * softCount limits { clean with stuck := true } ∧
              0 < softCount limits { clean with stuck := true } then [.score] else [])) ∧
      (((rigWith (scored .running 248)).chan 0).sup.level = band 248 ∧
        Cause.score :: [] = hardKinds limits { clean with gap := true } ++
          (if 255 < 248 + 8 * softCount limits { clean with gap := true } ∧
              0 < softCount limits { clean with gap := true } then [.score] else [])) ∧
      ((chan .running moving).state = .running ∧ moving.inFlight = true ∧ moving.pendingEval = none ∧
        ({ moving with pendingEval := some clean, lostEval := 65535 } : Sequencing).inFlight = true ∧
        driving.state = .running ∧ driving.seq.inFlight = false ∧ (scored .held 0).state ≠ .running) := by
  decide +kernel

/-- An ISOLATED channel with a recovery count. -/
def isolated (n : Nat) (mark : Bool) : Channel :=
  { chan .isolated { Sequencing.reset with resume := .transition } with
    sup := { Supervision.reset with recovery := n, hardMark := mark } }

/-- DeliveryIsolated: a hard kind, a soft kind, and a clean delivery in ESTOP and in READY at recovery counts 62 and 63, with and
without the hard mark. -/
theorem witness_DeliveryIsolated :
    (((rigWith (isolated 62 false)).chan 0).state = .isolated ∧ hardKinds limits { clean with v := 35999 } = .vHard :: []) ∧
      (hardKinds limits { clean with v := 39999 } = [] ∧ 0 < softCount limits { clean with v := 39999 }) ∧
      (hardKinds limits clean = [] ∧ softCount limits clean = 0 ∧
        ({ rigWith (isolated 5 false) with engine := .estop } : State).engine = .estop) ∧
      ((rigWith (isolated 62 false)).engine = .ready ∧ ((rigWith (isolated 62 false)).chan 0).sup.recovery < 63 ∧
        63 ≤ ((rigWith (isolated 63 true)).chan 0).sup.recovery ∧
        ((rigWith (isolated 63 false)).chan 0).sup.hardMark = false) := by
  decide +kernel

/-- PlausibilityEvents: an OFF and an ISOLATED channel, and scores 247 and 248 in RUNNING and in HELD. -/
theorem witness_PlausibilityEvents :
    (rig.chan 0).state = .off ∧ (rig.chan 0).sup.level = band 0 ∧ ((rigWith (isolated 5 false)).chan 0).state = .isolated ∧
      ((rigWith (isolated 5 false)).chan 0).sup.level = band 0 ∧
      (((rigWith (scored .running 247)).chan 0).sup.score ≤ 247 ∧ 248 ≤ ((rigWith (scored .running 248)).chan 0).sup.score ∧
        ((rigWith (scored .running 248)).chan 0).sup.level = band 248) ∧
      (((rigWith (scored .held 247)).chan 0).sup.level = band 247 ∧ ((rigWith (scored .complete 255)).chan 0).state = .complete ∧
        248 ≤ ((rigWith (scored .complete 255)).chan 0).sup.score) := by
  decide +kernel

/-- HardKindsAndFaultEntries: an empty and a filled fault record, under both modes; a delivery on both soft edges and one beyond
them; and temperatures outside the hard bounds, the primary one, both, and the AUX one alone. -/
theorem witness_HardKindsAndFaultEntries :
    (FaultRecord.empty.first = none ∧
      (FaultRecord.empty.enter (FaultEntry.bare .silence) .first (0, 1) 7).first ≠ none ∧
      (FaultRecord.empty.enter { FaultEntry.bare .vHard with others := [.score] } .accumulate (0, 1) 7).causes =
        [.vHard, .score]) ∧
      (softCount limits { clean with v := 40000, t := some 500 } = 0 ∧
        softCount limits { clean with v := 57601, t := none, aux := some 501, gap := true } = 3) ∧
      (entryTemp limits { clean with t := some 601, aux := some (-201) } .tHard = some 601 ∧
        entryTemp limits { clean with t := some 600, aux := some (-201) } .tHard = some (-201) ∧
        entryTemp limits { clean with t := some 600, aux := some (-201) } .vHard = some 600) := by
  decide +kernel

/-- A channel whose silence timer expires at tick 0. -/
def silent (ch : Channel) : Channel := { ch with track := { ch.track with silence := some 0 } }

/-- SilenceExpires: a timer that does not run, and one that expires now in each of the five states. -/
theorem witness_SilenceExpires :
    ((rigWith driving).attends ∧ ((rigWith driving).chan 0).track.silence ≠ some (rigWith driving).timeBase) ∧
      ((rigWith (silent driving)).attends ∧ ((rigWith (silent driving)).chan 0).track.silence = some 0 ∧
        ((rigWith (silent driving)).chan 0).state = .running) ∧
      (∀ ch ∈ [chan .held Sequencing.reset, chan .complete Sequencing.reset, isolated 5 false, chan .off Sequencing.reset],
        (rigWith (silent ch)).attends ∧ ((rigWith (silent ch)).chan 0).track.silence = some (rigWith (silent ch)).timeBase ∧
          ((rigWith (silent ch)).chan 0).state = ch.state) := by
  decide +kernel

/-- ConfigureCommand: a configuration of a RUNNING channel, of an OFF one with an invalid and with a valid limit set, and one
with configured 0. -/
theorem witness_ConfigureCommand :
    ((asked (rigWith driving) ([4, 0, 1] ++ (configBytes (config .auto false)).map BitVec.toNat)).executes
        (ask ([4, 0, 1] ++ (configBytes (config .auto false)).map BitVec.toNat)) [] ∧
        (ask ([4, 0, 1] ++ (configBytes (config .auto false)).map BitVec.toNat)).row = .configure ∧
        (ask ([4, 0, 1] ++ (configBytes (config .auto false)).map BitVec.toNat)).commands 0 16 ∧
        readConfig ((ask ([4, 0, 1] ++ (configBytes (config .auto false)).map BitVec.toNat)).args.drop 2) =
          some (config .auto false) ∧
        rig.tablesWf ∧ ((rigWith driving).chan 0).state ≠ .off) ∧
      ((rig.chan 0).state = .off ∧ (rig.limitSet 0).valid = true ∧ (rig.limitSet 1).valid = false ∧
        readConfig (configBytes { config .auto false with limitSet := 1 }) = some { config .auto false with limitSet := 1 }) ∧
      (readConfig (List.replicate 16 0) = some ConfigRec.reset) := by
  decide +kernel

/-- StartCommand: selector 63 and index 1023 named of a channel, and a program that can be started. -/
theorem witness_StartCommand :
    ((asked rig [4, 0, 2, 63, 3, 255]).executes (ask [4, 0, 2, 63, 3, 255]) [] ∧ (ask [4, 0, 2, 63, 3, 255]).row = .start ∧
        (ask [4, 0, 2, 63, 3, 255]).commands 0 3 ∧ u8At (ask [4, 0, 2, 63, 3, 255]).args 2 = 63 ∧
        u16At (ask [4, 0, 2, 63, 3, 255]).args 3 = 1023) ∧
      ((asked rig [4, 0, 2, 0, 0, 8]).executes (ask [4, 0, 2, 0, 0, 8]) [] ∧ (rig.chan 0).state = .off ∧
        (rig.cfg 0).configured = true ∧ (rig.limits 0).valid = true ∧ (rig.programDesc 0).valid = true ∧
        8 < (rig.programDesc 0).limit) := by
  decide +kernel

/-- HoldCommand: each row of R131. -/
theorem witness_HoldCommand :
    ((asked (rigWith driving) [4, 0, 3]).executes (ask [4, 0, 3]) [] ∧ (ask [4, 0, 3]).row = .hold ∧
        (ask [4, 0, 3]).commands 0 0 ∧ driving.state = .running ∧ driving.seq.inFlight = false) ∧
      ((asked (rigWith (chan .running moving)) [4, 0, 3]).executes (ask [4, 0, 3]) [] ∧ moving.inFlight = true) ∧
      ((asked (rigAt 2 (isolated 5 false)) [4, 2, 3]).executes (ask [4, 2, 3]) [] ∧ (ask [4, 2, 3]).commands 2 0 ∧
        (rig.cfg 2).policy = .controller ∧ (rig.cfg 0).policy ≠ .controller ∧ (isolated 5 false).state = .isolated) ∧
      ((asked (rigWith (chan .held Sequencing.reset)) [4, 0, 3]).executes (ask [4, 0, 3]) [] ∧
        (asked rig [4, 0, 3]).executes (ask [4, 0, 3]) [] ∧ (rig.chan 0).state = .off) := by
  decide +kernel

/-- ResumeCommand: RESUME(0) and RESUME(1) of a HELD channel. -/
theorem witness_ResumeCommand :
    (asked (rigWith (chan .held { Sequencing.reset with resume := .fault })) [4, 0, 4, 1]).executes (ask [4, 0, 4, 1]) [] ∧
      (ask [4, 0, 4, 1]).row = .resume ∧ (ask [4, 0, 4, 1]).commands 0 1 ∧ u8At (ask [4, 0, 4, 1]).args 2 = 1 ∧
      (ask [4, 0, 4, 0]).commands 0 1 ∧ u8At (ask [4, 0, 4, 0]).args 2 = 0 := by
  decide +kernel

/-- StopCommand: STOP of channel 31. -/
theorem witness_StopCommand :
    (asked (rigAt 31 driving) [4, 31, 5]).executes (ask [4, 31, 5]) [] ∧ (ask [4, 31, 5]).row = .stop ∧
      (ask [4, 31, 5]).commands 31 0 ∧ ((rigAt 31 driving).chan 31).state = .running := by
  decide +kernel

/-- JumpCommand: JUMP to index 1023. -/
theorem witness_JumpCommand :
    (asked (rigWith driving) [4, 0, 6, 3, 255]).executes (ask [4, 0, 6, 3, 255]) [] ∧ (ask [4, 0, 6, 3, 255]).row = .jump ∧
      (ask [4, 0, 6, 3, 255]).commands 0 2 ∧ u16At (ask [4, 0, 6, 3, 255]).args 2 = 1023 := by
  decide +kernel

/-- ClearingCommands: CLEAR_FAULT and CLEAR_TOTALS of an OFF and of a RUNNING channel. -/
theorem witness_ClearingCommands :
    ((asked (rigWith driving) [4, 0, 7]).executes (ask [4, 0, 7]) [] ∧ (ask [4, 0, 7]).row = .clearFault ∧
        (ask [4, 0, 7]).commands 0 0) ∧
      ((asked rig [4, 0, 8]).executes (ask [4, 0, 8]) [] ∧ (ask [4, 0, 8]).row = .clearTotals ∧ (ask [4, 0, 8]).commands 0 0 ∧
        (rig.chan 0).state = .off ∧ ((rigWith driving).chan 0).state ≠ .off) := by
  decide +kernel

/-- FramesOnTheWire: a setpoint frame at the ends of its ranges, and records whose fields fill theirs, with and without a dropped
count and an optional field. -/
theorem witness_FramesOnTheWire :
    (({ spFrame .run false with stage := 63, current := -32768, rep := true } : SpFrame).stage ≤ 63 ∧
        fitsS16 (-32768) ∧ fitsS16 32767) ∧
      (fitsU16 ((some 65535 : Option Nat).getD 0) ∧ fitsU16 ((none : Option Nat).getD 0) ∧ fitsU32 4294967295 ∧
        fitsS32 (-2147483648) ∧ fitsS32 2147483647 ∧ fitsS16 ((none : Option Int).getD 0)) ∧
      (bytes [7, 1, 2, 3, 4]).drop 1 = 1 :: 2 :: 3 :: 4 :: [] := by
  decide +kernel

/-- RequestRowsAndRefusals, the rows: the first and last code of each list, and the codes just outside. -/
theorem witness_RequestRowsAndRefusals_rows :
    ((ask [1]).row = .identify ∧ (ask [9]).row = .clearCounters ∧ (ask [0]).row = .unknownRequest ∧
        (ask [11]).row = .unknownRequest ∧ (ask [255]).row = .unknownRequest) ∧
      ((ask [2, 1]).row = .readTableStep ∧ (ask [2, 7]).row = .readTableConfig ∧ (ask [2, 8]).row = .readTableUndefinedTable ∧
        (ask [2, 0]).row = .readTableUndefinedTable ∧ (ask [2]).row = .readTableUndefinedTable) ∧
      ((ask [3, 1]).row = .writeTableStep ∧ (ask [3, 7]).row = .writeTableConfig ∧
        (ask [3, 8]).row = .writeTableUndefinedTable ∧ (ask [3, 0]).row = .writeTableUndefinedTable) ∧
      ((ask [4, 0, 1]).row = .configure ∧ (ask [4, 0, 8]).row = .clearTotals ∧ (ask [4, 0, 9]).row = .undefinedChannelCommand ∧
        (ask [4, 0, 0]).row = .undefinedChannelCommand ∧ (ask [4, 0]).row = .undefinedChannelCommand) ∧
      ((ask [10, 1]).row = .resetEngine ∧ (ask [10, 2]).row = .clearEstop ∧ (ask [10, 3]).row = .undefinedEngineCommand ∧
        (ask [10, 0]).row = .undefinedEngineCommand ∧ (ask [10]).row = .undefinedEngineCommand) := by
  decide +kernel

/-- RequestRowsAndRefusals, the channel commands: a wrong length for channel 31, channel 32, an undefined command code for channels
31 and 32 and without a code, and arguments just outside their ranges. -/
theorem witness_RequestRowsAndRefusals :
    ((asked rig [4, 31, 3, 0]).executes (ask [4, 31, 3, 0]) [] ∧ (ask [4, 31, 3, 0]).row = .hold ∧
        u8At (ask [4, 31, 3, 0]).args 0 = (31 : ChanId).val ∧ (ask [4, 31, 3, 0]).args.length ≠ 2 + 0 ∧
        u8At (ask [4, 32, 3]).args 0 = 32) ∧
      ((ask [4, 31, 9]).row = .undefinedChannelCommand ∧ (ask [4, 32, 9]).row = .undefinedChannelCommand ∧
        (ask [4, 31]).row = .undefinedChannelCommand ∧ (ask [4, 31]).args.length < 2) ∧
      ((ask [4, 0, 2, 64, 0, 0]).commands 0 3 ∧ 63 < u8At (ask [4, 0, 2, 64, 0, 0]).args 2 ∧
        (ask [4, 0, 2, 0, 4, 0]).commands 0 3 ∧ 1023 < u16At (ask [4, 0, 2, 0, 4, 0]).args 3) ∧
      ((ask [4, 0, 4, 2]).commands 0 1 ∧ 1 < u8At (ask [4, 0, 4, 2]).args 2 ∧ (ask [4, 0, 6, 4, 0]).commands 0 2 ∧
        1023 < u16At (ask [4, 0, 6, 4, 0]).args 2) ∧
      ((ask ([4, 0, 1] ++ List.replicate 16 1)).commands 0 16 ∧
        readConfig ((ask ([4, 0, 1, 1, 64] ++ List.replicate 14 1)).args.drop 2) = none) := by
  decide +kernel

/-- RequestRowsAndRefusals, the other requests: an undefined code, undefined table codes, the configuration table, an undefined
engine command, wrong lengths, and channel 32. -/
theorem witness_RequestRowsAndRefusals_others :
    ((asked rig [11]).executes (ask [11]) [] ∧ (ask [11]).row = .unknownRequest ∧
        (ask [2, 8, 0, 0, 1]).row = .readTableUndefinedTable ∧ (ask [3]).row = .writeTableUndefinedTable ∧
        (ask [3, 8]).row = .writeTableUndefinedTable ∧ (ask [3, 7]).row = .writeTableConfig ∧
        (ask [10, 3]).row = .undefinedEngineCommand) ∧
      ((ask [1, 0]).args.length ≠ 0 ∧ (ask [5]).args.length ≠ 1 ∧ (ask [2, 5]).row = .readTableLimit ∧
        (ask [2, 5]).args.length ≠ 4 ∧ (ask [10, 1, 0]).row = .resetEngine ∧ (ask [10, 1, 0]).args.length ≠ 1) ∧
      ((ask [5, 32]).row = .readChannel ∧ (ask [5, 32]).args.length = 1 ∧ 32 ≤ u8At (ask [5, 32]).args 0) := by
  decide +kernel

/-- ReadAccountsAndFault: channels 31 and 32. -/
theorem witness_ReadAccountsAndFault :
    ((asked rig [6, 31]).executes (ask [6, 31]) [] ∧ (ask [6, 31]).row = .readAccounts ∧ (ask [6, 31]).args.length = 1 ∧
        u8At (ask [6, 31]).args 0 = (31 : ChanId).val) ∧
      ((asked rig [7, 31]).executes (ask [7, 31]) [] ∧ (ask [7, 31]).row = .readFault ∧
        u8At (ask [7, 31]).args 0 = (31 : ChanId).val) ∧
      (32 ≤ u8At (ask [6, 32]).args 0 ∧ (ask [6, 32]).row = .readAccounts ∧ (ask [7, 32]).row = .readFault) := by
  decide +kernel

/-- IdentityChannelAndCounters: IDENTIFY, READ_CHANNEL of channel 31, READ_COUNTERS and CLEAR_COUNTERS. -/
theorem witness_IdentityChannelAndCounters :
    ((asked rig [1]).executes (ask [1]) [] ∧ (ask [1]).row = .identify ∧ (ask [1]).args = []) ∧
      ((asked rig [5, 31]).executes (ask [5, 31]) [] ∧ (ask [5, 31]).row = .readChannel ∧ (ask [5, 31]).args.length = 1 ∧
        u8At (ask [5, 31]).args 0 = (31 : ChanId).val) ∧
      ((asked rig [8]).executes (ask [8]) [] ∧ (ask [8]).row = .readCounters ∧ (ask [8]).args = []) ∧
      ((asked rig [9]).executes (ask [9]) [] ∧ (ask [9]).row = .clearCounters) := by
  decide +kernel

/-- A WRITE_TABLE of limit sets from index `i` on. -/
def limitWrite (i : Nat) (l : List LimitSet) : List Nat :=
  [3, 5, 0, i, l.length] ++ (l.flatMap limitBytes).map BitVec.toNat

/-- ImmediateTableRequests, the reads and the limit sets: the largest counts; MAINT low and high; wrong lengths; counts of 0 and
past the end; a set that is written valid, and one written invalid while a RUNNING channel names it. -/
theorem witness_ImmediateTableRequests :
    ((asked rig [2, 5, 0, 12, 4]).executes (ask [2, 5, 0, 12, 4]) [] ∧ (ask [2, 5, 0, 12, 4]).row = .readTableLimit ∧
        (ask [2, 5, 0, 12, 4]).args.length = 4 ∧ (ask [2, 6, 0, 36, 28]).row = .readTableAccept ∧
        (ask [2, 7, 0, 25, 7]).row = .readTableConfig) ∧
      ((asked rig [3, 5]).executes (ask [3, 5]) [] ∧ (ask [3, 5]).row = .writeTableLimit ∧ rig.maint = false ∧ rig.tablesWf) ∧
      ((ask [3, 5]).args.length < 4 ∧ (ask [3, 5, 0, 0, 1]).args.length ≠ 4 + 1 * 24 ∧
        (ask [3, 5, 0, 0, 0]).args.length = 4 + 0 * 24 ∧
        (ask (limitWrite 15 [limits, limits])).args.length = 4 + 2 * 24 ∧ 16 < 15 + 2) ∧
      ((ask (limitWrite 15 [limits])).args.length = 4 + u8At (ask (limitWrite 15 [limits])).args 3 * 24 ∧
        readRecords readLimit 24 1 ((ask (limitWrite 15 [limits])).args.drop 4) = some [limits] ∧
        readRecords readLimit 24 1 ((ask (limitWrite 0 [LimitSet.reset])).args.drop 4) = some [LimitSet.reset] ∧
        ((rigWith driving).cfg 0).configured = true ∧ ((rigWith driving).chan 0).state ≠ .off ∧
        ((rigWith driving).cfg 0).limitSet = 0 + 0 ∧ LimitSet.reset.valid = false) := by
  decide +kernel

/-- ImmediateTableRequests, the acceptance table: wrong lengths, a count of 0 and one past the end, an undefined role; and records
that pass, one that is in use, one that conflicts and one that does neither. -/
theorem witness_ImmediateTableRequests_accept :
    ((asked rig [3, 6]).executes (ask [3, 6]) [] ∧ (ask [3, 6]).row = .writeTableAccept ∧ (ask [3, 6]).args.length < 4 ∧
        (ask [3, 6, 0, 0, 1]).args.length ≠ 4 + 1 * 4 ∧ (ask [3, 6, 0, 0, 0]).args.length = 4 + 0 * 4 ∧
        (ask [3, 6, 0, 63, 2, 1, 0, 0, 0, 1, 0, 0, 0]).args.length = 4 + 2 * 4 ∧ 64 < 63 + 2) ∧
      (readRecords readAccept 4 1 (bytes [0x31, 0, 0, 0]) = none ∧
        readRecords readAccept 4 1 (bytes [0x11, 0x41, 0xFF, 0]) =
          some [{ enable := true, tag := 0x41, mask := 0xFF, channel := 0, role := .aux }]) ∧
      (((rigWith driving).acceptEntry 0).enable = true ∧ ((rigWith driving).acceptEntry 0).role = .primary ∧
        ((rigWith driving).chan ((rigWith driving).acceptEntry 0).channel).state ≠ .off) ∧
      ((rig.acceptEntry 0).channel = 0 ∧ (rig.acceptEntry 3).channel = 5 ∧ (rig.acceptEntry 9).enable = false) := by
  decide +kernel

/-- PowerOnReset: RESET_N low and high, the table clear in progress and over. -/
theorem witness_PowerOnReset :
    (({ rig with resetN := false } : State).resetN = false ∧ rig.resetN = true ∧ rig.attends ∧ rig.clearing = false) ∧
      (State.reset.attends ∧ State.reset.clearing = true ∧ State.reset.engine = .init ∧
        ∀ c : ChanId, (State.reset.chan c).sp.pending = none ∧ (State.reset.chan c).sp.inTx = none) := by
  decide +kernel

/-- TimeBaseTicks: ticks 0 and 2^32 - 1 with no expiry due, a silence expiry due now, and tick 10 of a start-up that still
clears its tables. -/
theorem witness_TimeBaseTicks :
    (rig.attends ∧ rig.clearing = false ∧
        ∀ c : ChanId, (rig.chan c).track.silence ≠ some rig.timeBase ∧ (rig.chan c).track.auxTimer ≠ some rig.timeBase ∧
          (rig.chan c).sp.refresh ≠ some rig.timeBase) ∧
      (({ rig with timeBase := 4294967295 } : State).attends ∧ (rigWith (silent driving)).attends) ∧
      (({ State.reset with timeBase := 10 } : State).attends ∧ ({ State.reset with timeBase := 10 } : State).clearing = true ∧
        ({ State.reset with timeBase := 10 } : State).engine = .init ∧
        ({ State.reset with timeBase := 10 } : State).requests = []) := by
  decide +kernel

/-- LinesAndEmergencyStop: the line high in READY and in INIT, and low; channels that trip, one that is ISOLATED, and the rest
OFF; and FAULT_N asserted for an ISOLATED channel and in ESTOP, released in READY, in INIT and with RESET_N low (R188). -/
theorem witness_LinesAndEmergencyStop :
    ((rigWith driving).attends ∧ (rigWith driving).estopN = true ∧ (rigWith driving).engine = .ready) ∧
      (State.reset.attends ∧ State.reset.estopN = true ∧ State.reset.engine ≠ .ready) ∧
      ({ rig with estopN := false } : State).attends ∧
      ((∀ s ∈ [rigWith (isolated 5 false), { rig with engine := .estop }], s.faultAsserted = true) ∧
        ∀ s ∈ [rig, { rigWith (isolated 5 false) with engine := .init },
          { rigWith (isolated 5 false) with resetN := false, engine := .estop }], s.faultAsserted = false) ∧
      (∀ s ∈ [((rigWith driving).setChan 3 (chan .running moving)).setChan 1 (isolated 5 false)],
        s.attends ∧ s.estopN = true ∧ s.engine = .ready ∧ (s.chan 0).state = .running ∧ (s.chan 1).state = .isolated ∧
          (s.chan 2).state = .off ∧ (s.chan 3).state = .running ∧ s.tripState 3 = .held) := by
  decide +kernel

/-- The emergency stop of channels 0, 1 and 3 (R186): the records by increasing channel number, and the order of the OPENs. -/
theorem test_estop_records :
    ((run .estopNFall (((rigWith driving).setChan 3 (chan .running moving)).setChan 1 (isolated 5 false))).reports.map
        (fun r => (r.channel.val, r.body.code))) = [(0, 3), (0, 4), (1, 3), (3, 3), (3, 4)] ∧
      ((run .estopNFall (((rigWith driving).setChan 3 (chan .running moving)).setChan 1 (isolated 5 false))).chan 3).sp.since =
        some 1 := by
  decide +kernel

/-- EngineCommandsAndReset: the two engine commands, CLEAR_ESTOP with the line low and high; and the completion of the answer of
a RESET_ENGINE with a RUNNING channel, the table port free, with a fetch in progress and with a management access. -/
theorem witness_EngineCommandsAndReset :
    ((asked rig [10, 1]).executes (ask [10, 1]) [] ∧ (ask [10, 1]).args.length = 1 ∧ (ask [10, 1]).row = .resetEngine) ∧
      ((asked { rig with engine := .estop, estopN := false } [10, 2]).executes (ask [10, 2]) [] ∧
        (ask [10, 2]).row = .clearEstop ∧ (asked { rig with engine := .estop } [10, 2]).executes (ask [10, 2]) [] ∧
        (asked { rig with engine := .estop } [10, 2]).estopN = true) ∧
      ((∀ p ∈ [PortState.free, .access, .fetch 0 .bound true],
          ({ rigWith driving with
            upTx := some { frame := sample 0 0, resets := true }, resetPending := true, port := p } : State).attends) ∧
        ((rigWith driving).chan 0).state ≠ .off ∧ ((rigWith driving).cfg 0).shadow = false) := by
  decide +kernel

/-! ## States from which the invariants are stepped -/

/-- The rig with channel 0 driving, a sample waiting to be received. -/
def busy : State := { rigWith driving with dnRx := .armed, pending := [.dnFrameReceived (sample 0x40 7)] }

/-- A step from `busy` answers a next state, as every step does. -/
theorem witness_step : ∃ t, step busy = .next t := ⟨run (.dnFrameReceived (sample 0x40 7)) { busy with pending := [] }, rfl⟩

/-- StepKeepsQueues, StepKeepsTables: the premises of one state that drives. -/
theorem witness_StepKeepsQueues_Tables :
    (busy.queuesBounded ∧ busy.relayWaitOk ∧ busy.managementOk) ∧ (busy.tablesWf ∧ busy.recordsOk ∧ busy.jobOk ∧ busy.primariesOk) := by
  refine ⟨?_, ?_, ⟨?_, ?_, ?_, ?_, ?_, ?_⟩, ?_⟩ <;> decide +kernel

/-- StepKeepsFlights: the premise, in a state with a step, and in one with a transition being fetched for. -/
theorem witness_StepKeepsFlights : busy.flightsOk ∧ (fetching (record .loop 2 7 0)).flightsOk := by
  refine ⟨⟨?_, ?_, ?_⟩, ?_, ?_, ?_⟩ <;> decide +kernel

/-- StepKeepsSlots: the premises. -/
theorem witness_StepKeepsSlots : busy.quietSlots ∧ busy.sinceOk := by decide +kernel

/-- StepKeepsSupervision and StepKeepsAccounts: the premises; and a filled fault record that meets its own. -/
theorem witness_StepKeepsSupervision_Accounts :
    (∀ c : ChanId, (busy.chan c).supervisionOk) ∧
      (FaultRecord.empty.enter { FaultEntry.bare .vHard with others := [.score] } .accumulate (0, 1) 7).ok ∧
      ∀ c : ChanId, (busy.chan c).acct.inRange ∧ (busy.chan c).trackingOk ∧ (busy.chan c).countersOk := by
  refine ⟨?_, ?_, ?_⟩ <;> decide +kernel

/-- StepKeepsConfiguration: the premises. -/
theorem witness_StepKeepsConfiguration : busy.configured ∧ busy.initOk := by decide +kernel

/-- The state after power-on reset meets the premises too. -/
theorem witness_reset : State.reset.flightsOk ∧ State.reset.sinceOk ∧ State.reset.initOk := by
  refine ⟨⟨?_, ?_, ?_⟩, ?_, ?_⟩ <;> decide +kernel

end Sys2Proof.Tests
end

section
/-! The two measurement records of the accounting unit (R35 to R37): the rounding, the clamping and the efficiency each get
their own lemmas, then one theorem per record gives its fields, and ReportFields puts them together. -/

namespace Sys2Proof.Proofs

open Sys2Proof Sys2Proof.Machine

/-! ## Rounding (R35) -/

theorem toHours_natCast (n : Nat) : toHours n = toHoursNat n := by
  obtain rfl | hn := Nat.eq_zero_or_pos n
  · rfl
  · simp [toHours, toHoursNat, Int.sign_natCast_of_ne_zero hn.ne']

theorem toHours_neg (x : Int) : toHours (-x) = -toHours x := by simp [toHours]

/-- What makes `toHoursNat n` the nearest integer to n / 3600, with the exact half going up. -/
theorem toHoursNat_bounds (n : Nat) : 3600 * toHoursNat n ≤ n + 1800 ∧ n < 3600 * toHoursNat n + 1800 := by
  unfold toHoursNat
  omega

theorem toHours_bounds_of_nonneg {x : Int} (hx : 0 ≤ x) :
    3600 * toHours x - 1800 ≤ x ∧ x < 3600 * toHours x + 1800 := by
  lift x to Nat using hx
  have := toHoursNat_bounds x
  rw [toHours_natCast]
  omega

/-- The bounds of a negative total mirror those of its magnitude, so the exact half goes down. -/
theorem toHours_bounds_of_neg {x : Int} (hx : x < 0) :
    3600 * toHours x - 1800 < x ∧ x ≤ 3600 * toHours x + 1800 := by
  have hmirror := toHours_bounds_of_nonneg (x := -x) (by omega)
  rw [toHours_neg] at hmirror
  omega

/-! ## Clamping (R36) -/

theorem clampS32_ne_iff (x : Int) : clampS32 x ≠ x ↔ 2147483647 < x.natAbs := by
  unfold clampS32
  omega

/-! ## Efficiency (R37) -/

theorem efficiency_eq_none_iff (chargeIn chargeOut : Nat) : efficiency chargeIn chargeOut = none ↔ chargeIn = 0 := by
  simp [efficiency]

theorem efficiency_of_pos {chargeIn : Nat} (h : 0 < chargeIn) (chargeOut : Nat) :
    efficiency chargeIn chargeOut = some (10000 * chargeOut / chargeIn) := if_neg h.ne'

/-- An absent efficiency leaves no field to be capped. -/
theorem efficiency_capped_iff (chargeIn chargeOut : Nat) :
    65535 < (efficiency chargeIn chargeOut).getD 0 ↔ 0 < chargeIn ∧ 65535 < 10000 * chargeOut / chargeIn := by
  obtain rfl | h := Nat.eq_zero_or_pos chargeIn
  · simp [efficiency]
  · simp [efficiency_of_pos h, h]

/-! ## The CYCLE_END record -/

theorem cycleEndBody_efficiency_eq_none_iff (a : Accounts) (n : Nat) :
    (cycleEndBody a n).efficiency = none ↔ a.qcIn = 0 :=
  Option.map_eq_none_iff.trans (efficiency_eq_none_iff a.qcIn a.qcOut)

theorem cycleEndBody_efficiency_of_pos {a : Accounts} (h : 0 < a.qcIn) (n : Nat) :
    (cycleEndBody a n).efficiency = some (min 65535 (10000 * a.qcOut / a.qcIn)) := by
  simp [cycleEndBody, efficiency_of_pos h]

theorem cycleEndBody_clamped_iff (a : Accounts) (n : Nat) :
    (cycleEndBody a n).clamped = true ↔
      (0 < a.qcIn ∧ 65535 < 10000 * a.qcOut / a.qcIn) ∨ 4294967295 < toHoursNat a.qcIn ∨
        4294967295 < toHoursNat a.qcOut ∨ 4294967295 < toHoursNat a.ecIn ∨ 4294967295 < toHoursNat a.ecOut := by
  simp only [cycleEndBody, Config.max32, Bool.or_eq_true, decide_eq_true_eq, gt_iff_lt, efficiency_capped_iff]
  tauto

/-! ## The STEP_END record -/

theorem stepEndBody_clamped_iff (q : Sequencing) (a : Accounts) (cause : EndCause) (v : Nat) (i : Int) (t : Option Int) :
    (stepEndBody q a cause v i t).clamped = true ↔
      2147483647 < (toHours a.qs).natAbs ∨ 2147483647 < (toHours a.es).natAbs := by
  simp only [stepEndBody, Bool.or_eq_true, decide_eq_true_eq, clampS32_ne_iff]

/-- Settles O13: the fields that are copied or only held within their range are so by definition; the efficiency, the two
CLAMPED flags and the rounding come from the lemmas above. -/
theorem reportFields : Obligations.ReportFields := by
  refine ⟨fun a n => ?cycleEnd, fun x => ?rounding, fun q a cause v i t => ?stepEnd⟩
  case cycleEnd =>
    exact ⟨cycleEndBody_efficiency_eq_none_iff a n, fun h => cycleEndBody_efficiency_of_pos h n,
      cycleEndBody_clamped_iff a n, rfl, rfl, rfl, rfl, rfl, rfl⟩
  case rounding => exact ⟨toHours_bounds_of_nonneg, toHours_bounds_of_neg⟩
  case stepEnd =>
    exact ⟨rfl, rfl, stepEndBody_clamped_iff q a cause v i t, rfl, rfl, rfl, rfl, rfl, rfl, rfl, rfl, rfl, rfl⟩

end Sys2Proof.Proofs
end

section
/-! CLEAR_FAULT and CLEAR_TOTALS (R136, R137): one lemma executes any channel command in its turn, the next ones say what
the two commands leave of FAULT_N and of the fault record, and ClearingCommands puts them together. -/

namespace Sys2Proof.Proofs

open Sys2Proof Sys2Proof.Machine

/-! ## A channel command in its turn (R129, R158) -/

/-- A command that touches neither the request queue nor the request in execution leaves just its answer beside its own
effect. -/
theorem execRow_of_commands {s : State} {r : Request} {rest : List Request} {row : RequestRow} {c : ChanId} {n : Nat}
    {act : State → ChanId → Status × State} (hs : s.executes r rest) (hrow : r.row = row) (hc : r.commands c n)
    (hrequests : (act s c).2.requests = s.requests) (hjob : (act s c).2.job = s.job) :
    execRow row (fun s r => s.runCommand r n true act) s =
      .next ((act s c).2.answered r rest (act s c).1 (commandLine r ((act s c).2.chan c).state)) := by
  rw [execRow_of_executes hs hrow, State.runCommand_of_commands hc]
  obtain ⟨-, -, hidle, -, -, hhead⟩ := hs
  rw [State.placeAnswer_eq_answered _ _ (hrequests.trans hhead) (hjob.trans hidle)]

/-! ## FAULT_N (R188) -/

/-- FAULT_N depends on a channel through its state only. -/
theorem faultAsserted_setChan {s : State} {c : ChanId} {ch : Channel} (h : ch.state = (s.chan c).state) :
    (s.setChan c ch).faultAsserted = s.faultAsserted := by
  have hstate (x : ChanId) : ((s.setChan c ch).chan x).state = (s.chan x).state := by
    rw [State.setChan_chan]
    split
    · next hx => rw [h, hx]
    · rfl
  simp only [State.faultAsserted, State.anyIsolated, State.setChan_resetN, State.setChan_engine, hstate]

/-! ## The fault record (R119, R122) -/

/-- An entry in a record without first items fills them. -/
theorem enter_first_of_none {f : FaultRecord} (h : f.first = none) (e : FaultEntry) (mode : FaultMode) (pos : Nat × Nat)
    (at_ : Tick) : (f.enter e mode pos at_).first = some e.lead := by
  simp [FaultRecord.enter, h]

theorem enterFault_first_of_none {s : State} {c : ChanId} (h : (s.chan c).sup.fault.first = none) (e : FaultEntry) :
    ((s.enterFault c e).chan c).sup.fault.first = some e.lead := by
  rw [State.enterFault_chan, if_pos rfl]
  exact enter_first_of_none h ..

/-! ## The two commands -/

/-- The channel that CLEAR_FAULT leaves (R27, R58, R122, R136). -/
def faultCleared (ch : Channel) : Channel :=
  { ch with
    sup := { ch.sup with fault := FaultRecord.empty }
    acct := ch.acct.clearFlags
    seq := { ch.seq with stackOverflow := false, stackUnderflow := false } }

theorem cmdClearFault_eq (s : State) (c : ChanId) : cmdClearFault s c = (.ok, s.setChan c (faultCleared (s.chan c))) := rfl

theorem exec_clearFault {s : State} {r : Request} {rest : List Request} {c : ChanId} (hs : s.executes r rest)
    (hrow : r.row = .clearFault) (hc : r.commands c 0) :
    exec .clearFault s =
      .next ((s.setChan c (faultCleared (s.chan c))).answered r rest .ok (commandLine r (s.chan c).state)) := by
  have hexec := execRow_of_commands (act := cmdClearFault) hs hrow hc rfl rfl
  rw [cmdClearFault_eq, State.setChan_chan, if_pos rfl] at hexec
  exact hexec

theorem cmdClearTotals_of_off {s : State} {c : ChanId} (h : (s.chan c).state = .off) :
    cmdClearTotals s c = (.ok, s.modAcct c Accounts.clearTotals) := if_pos h

theorem cmdClearTotals_of_ne_off {s : State} {c : ChanId} (h : (s.chan c).state ≠ .off) :
    cmdClearTotals s c = (.wrongState, s) := if_neg h

/-- CLEAR_TOTALS in OFF (R33, R137). -/
theorem exec_clearTotals_of_off {s : State} {r : Request} {rest : List Request} {c : ChanId} (hs : s.executes r rest)
    (hrow : r.row = .clearTotals) (hc : r.commands c 0) (hoff : (s.chan c).state = .off) :
    exec .clearTotals s = .next ((s.modAcct c Accounts.clearTotals).answered r rest .ok (commandLine r .off)) := by
  have hcmd := cmdClearTotals_of_off hoff
  have hexec := execRow_of_commands (act := cmdClearTotals) hs hrow hc (by rw [hcmd]; rfl) (by rw [hcmd]; rfl)
  rw [hcmd, State.modAcct_chan, if_pos rfl, hoff] at hexec
  exact hexec

/-- CLEAR_TOTALS outside OFF is refused (R137). -/
theorem exec_clearTotals_of_ne_off {s : State} {r : Request} {rest : List Request} {c : ChanId} (hs : s.executes r rest)
    (hrow : r.row = .clearTotals) (hc : r.commands c 0) (hon : (s.chan c).state ≠ .off) :
    exec .clearTotals s = .next (s.answered r rest .wrongState (commandLine r (s.chan c).state)) := by
  have hcmd := cmdClearTotals_of_ne_off hon
  have hexec := execRow_of_commands (act := cmdClearTotals) hs hrow hc (by rw [hcmd]) (by rw [hcmd])
  rw [hcmd] at hexec
  exact hexec

/-- Settles O44: each command by its own lemma above. CLEAR_FAULT writes one channel without changing its state, so FAULT_N
stays, and it leaves an empty fault record, so the next entry is the first. -/
theorem clearingCommands : Obligations.ClearingCommands := by
  refine ⟨?clearFault, ?clearTotals⟩
  case clearFault =>
    rintro s r rest c _ _ hs hrow hc rfl rfl
    have hempty : ((s.setChan c (faultCleared (s.chan c))).chan c).sup.fault.first = none := by
      rw [State.setChan_chan, if_pos rfl]
      rfl
    exact ⟨exec_clearFault hs hrow hc, faultAsserted_setChan (ch := faultCleared (s.chan c)) rfl,
      enterFault_first_of_none hempty⟩
  case clearTotals =>
    intro s r rest c hs hrow hc
    exact ⟨exec_clearTotals_of_off hs hrow hc, exec_clearTotals_of_ne_off hs hrow hc⟩

end Sys2Proof.Proofs
end

section
/-! Routing at UP (R145): a frame without a receive error leaves the receiver in HUNT and is routed; the next lemmas say
what each row of the routing table does with it, and UpRouting puts them together. -/

namespace Sys2Proof.Proofs

open Sys2Proof Sys2Proof.Machine

/-! ## The end of a reception (R140 to R142) -/

/-- A receiver past HUNT takes what ends its reception. -/
theorem reception_of_listening {s : State} {p : Port} (h : s.listening p) (f : State → State) : s.reception p f = f s := by
  obtain h | h := h <;> simp [State.reception, h]

/-- A frame without a receive error passes both checks. -/
theorem frameAt_of_soundFrame {f : Frame} (h : soundFrame f) (s : State) (p : Port) (route : State → Frame → State) :
    s.frameAt p f route = route (s.setRx p (.hunt true)) f := by
  obtain ⟨hwf, hcrc⟩ := h
  have hheader : headerMalformed f.byte0 f.payload.length = false := by simpa [Frame.wf] using hwf
  simp [State.frameAt, hheader, hcrc]

/-! ## Routing at UP leaves the receivers alone -/

theorem countLink_setRx (s : State) (p : Port) (r : RxState) (g : LinkCounters → LinkCounters) :
    (s.setRx p r).countLink g = (s.countLink g).setRx p r := by
  cases p <;> rfl

theorem relayDownJoin_setRx (s : State) (p : Port) (r : RxState) (f : Frame) :
    (s.setRx p r).relayDownJoin f = (s.relayDownJoin f).setRx p r := by
  simp only [State.relayDownJoin, State.setRx_relayDown]
  split <;> cases p <;> rfl

theorem routeRequest_setRx (s : State) (p : Port) (r : RxState) (payload : List Byte) :
    (s.setRx p r).routeRequest payload = (s.routeRequest payload).setRx p r := by
  match payload with
  | [] | [_] => cases p <;> rfl
  | tag :: code :: args =>
    simp only [State.routeRequest, State.setRx_engine, State.setRx_requests]
    split <;> cases p <;> rfl

theorem routeUp_setRx (s : State) (p : Port) (r : RxState) (f : Frame) :
    (s.setRx p r).routeUp f = (s.routeUp f).setRx p r := by
  simp only [State.routeUp, State.setRx_engineAddress, relayDownJoin_setRx, routeRequest_setRx, countLink_setRx]
  cases frameKind f.byte0 with
  | mgmtReq | mgmtAns | report => dsimp only; split <;> rfl
  | sample | setpoint | transit => rfl

/-! ## UP_FRAME_RECEIVED -/

/-- UP_FRAME_RECEIVED of a frame without a receive error routes it and leaves the receiver in HUNT. -/
theorem exec_upFrameReceived_of_soundFrame {s : State} {f : Frame} (hs : s.attends) (hup : s.listening .up)
    (hf : soundFrame f) : exec (.upFrameReceived f) s = .next ((s.routeUp f).setRx .up (.hunt true)) := by
  calc exec (.upFrameReceived f) s
      = .next (s.event (fun s => s.reception .up (fun s => s.frameAt .up f State.routeUp))) := rfl
    _ = .next ((s.routeUp f).setRx .up (.hunt true)) := by
        rw [State.event_of_attends hs, reception_of_listening hup, frameAt_of_soundFrame hf, routeUp_setRx]

/-! ## The U→D relay queue (R147) -/

theorem relayDownJoin_of_lt {s : State} (h : s.relayDown.length < 8) (f : Frame) :
    s.relayDownJoin f = { s with relayDown := s.relayDown ++ [f] } := if_pos h

theorem relayDownJoin_of_full {s : State} (h : 8 ≤ s.relayDown.length) (f : Frame) :
    s.relayDownJoin f = s.countLink (fun l => { l with relayDropDown := bump l.relayDropDown }) := if_neg h.not_gt

/-! ## A management request for the engine (R145, R157) -/

theorem routeRequest_of_lt {s : State} (hready : s.engine ≠ .init) (h : s.requests.length < 4) (tag code : Byte)
    (args : List Byte) :
    s.routeRequest (tag :: code :: args) =
      { s with requests := s.requests ++ [{ tag := tag, code := code, args := args }] } := if_pos ⟨hready, h⟩

/-- A request with its tag and its code is dropped in INIT and when the queue is full. -/
theorem routeRequest_of_dropped {s : State} (h : s.engine = .init ∨ 4 ≤ s.requests.length) {payload : List Byte}
    (hlen : 2 ≤ payload.length) :
    s.routeRequest payload = s.countLink (fun l => { l with mgmtDrop := bump l.mgmtDrop }) := by
  match payload, hlen with
  | tag :: code :: args, _ =>
    have hdrop : ¬ (s.engine ≠ .init ∧ s.requests.length < 4) := by
      rintro ⟨hready, hroom⟩
      exact h.elim hready hroom.not_ge
    exact if_neg hdrop

/-- A payload that ends before the code is malformed, in every state of the engine and of the queue. -/
theorem routeRequest_of_short {payload : List Byte} (hlen : payload.length ≤ 1) (s : State) :
    s.routeRequest payload = s.countLink (fun l => l.malformed .up) := by
  match payload, hlen with
  | [], _ => rfl
  | [_], _ => rfl

/-! ## The routing table (R145) -/

theorem routeUp_of_request {s : State} {f : Frame} (hkind : frameKind f.byte0 = .mgmtReq)
    (haddr : f.addr = s.engineAddress) : s.routeUp f = s.routeRequest f.payload := by
  simp [State.routeUp, hkind, haddr]

/-- An answer or a report for the engine itself is malformed. -/
theorem routeUp_of_answer_or_report {s : State} {f : Frame}
    (hkind : frameKind f.byte0 = .mgmtAns ∨ frameKind f.byte0 = .report) (haddr : f.addr = s.engineAddress) :
    s.routeUp f = s.countLink (fun l => l.malformed .up) := by
  obtain hkind | hkind := hkind <;> simp [State.routeUp, hkind, haddr]

/-- A frame of the other kinds is relayed under every address, and a frame for another address is relayed whatever its
kind. -/
theorem routeUp_of_relayed {s : State} {f : Frame}
    (h : f.addr ≠ s.engineAddress ∨ frameKind f.byte0 = .sample ∨ frameKind f.byte0 = .setpoint ∨
      frameKind f.byte0 = .transit) : s.routeUp f = s.relayDownJoin f := by
  obtain haddr | hkind | hkind | hkind := h
  case inl => cases hkind : frameKind f.byte0 <;> simp [State.routeUp, hkind, haddr]
  all_goals simp [State.routeUp, hkind]

/-- Settles O5: each row is what the routing table's lemma says of the frame, then what the queue or the counter it meets makes
of it. -/
theorem upRouting : Obligations.UpRouting := by
  intro s f hs hup hf
  rw [exec_upFrameReceived_of_soundFrame hs hup hf]
  refine ⟨?request, ?short, ?inInit, ?answerOrReport, ?relayed⟩
  case request =>
    intro hkind haddr hready tag code args hpayload
    rw [routeUp_of_request hkind haddr, hpayload]
    refine ⟨fun hroom => ?_, fun hfull => ?_⟩
    · rw [routeRequest_of_lt hready hroom]
      rfl
    · rw [routeRequest_of_dropped (.inr hfull) (by simp)]
      rfl
  case short =>
    intro hkind haddr hlen
    rw [routeUp_of_request hkind haddr, routeRequest_of_short hlen]
    rfl
  case inInit =>
    intro hkind haddr hinit hlen
    rw [routeUp_of_request hkind haddr, routeRequest_of_dropped (.inl hinit) hlen]
    rfl
  case answerOrReport =>
    intro hkind haddr
    rw [routeUp_of_answer_or_report hkind haddr]
    rfl
  case relayed =>
    intro hrelay
    rw [routeUp_of_relayed hrelay]
    refine ⟨fun hroom => ?_, fun hfull => ?_⟩
    · rw [relayDownJoin_of_lt hroom]
      rfl
    · rw [relayDownJoin_of_full hfull]
      rfl

end Sys2Proof.Proofs
end

section
/-! READ_ACCOUNTS and READ_FAULT (R167, R168): one lemma executes any read that carries only a channel number, the next ones
say that the manual's layout of the two answers is the model's, and ReadAccountsAndFault puts them together. -/

namespace Sys2Proof.Proofs

open Sys2Proof Sys2Proof.Machine

/-! ## A read of one channel in its turn (R158, R166 to R168) -/

theorem readOfChannel_of_lt {s : State} {r : Request} {c : ChanId} (hlen : r.args.length = 1) (hc : u8At r.args 0 = c.val)
    (results : ChanId → List Byte) : s.readOfChannel r results = s.placeAnswer r .ok (results c) := by
  have hlt : u8At r.args 0 < 32 := hc ▸ c.isLt
  have hchan : (⟨u8At r.args 0, hlt⟩ : ChanId) = c := Fin.ext hc
  simp [State.readOfChannel, State.withLength, hlen, hlt, hchan]

theorem readOfChannel_of_ge {r : Request} (hlen : r.args.length = 1) (h : 32 ≤ u8At r.args 0) (s : State)
    (results : ChanId → List Byte) : s.readOfChannel r results = s.refuse r .badArgument := by
  simp [State.readOfChannel, State.withLength, hlen, h.not_gt]

/-- The read of a channel in 0..31 leaves just its answer, which describes the channel as it stands. -/
theorem execRow_readOfChannel_of_lt {s : State} {r : Request} {rest : List Request} {row : RequestRow} {c : ChanId}
    (hs : s.executes r rest) (hrow : r.row = row) (hlen : r.args.length = 1) (hc : u8At r.args 0 = c.val)
    (results : State → ChanId → List Byte) :
    execRow row (fun s r => s.readOfChannel r (results s)) s = .next (s.answered r rest .ok (results s c)) := by
  rw [execRow_of_executes hs hrow, readOfChannel_of_lt hlen hc]
  obtain ⟨-, -, hidle, -, -, hhead⟩ := hs
  rw [State.placeAnswer_eq_answered _ _ hhead hidle]

/-- The read of a channel number outside 0..31 is refused. -/
theorem execRow_readOfChannel_of_ge {s : State} {r : Request} {rest : List Request} {row : RequestRow}
    (hs : s.executes r rest) (hrow : r.row = row) (hlen : r.args.length = 1) (h : 32 ≤ u8At r.args 0)
    (results : State → ChanId → List Byte) :
    execRow row (fun s r => s.readOfChannel r (results s)) s = .next (s.answered r rest .badArgument []) := by
  rw [execRow_of_executes hs hrow, readOfChannel_of_ge hlen h, State.refuse_eq_answered _ hs]

/-! ## Widths of fields -/

@[simp] theorem length_natBytes (n x : Nat) : (natBytes n x).length = n := by
  induction n with
  | zero => rfl
  | succ n ih => simp [natBytes, ih]

@[simp] theorem length_intBytes (n : Nat) (x : Int) : (intBytes n x).length = n := length_natBytes ..

theorem length_accountBytes (c : ChanId) (a : Accounts) : (accountBytes c a).length = 78 := by
  simp [accountBytes]

theorem length_faultBytes (c : ChanId) (f : FaultRecord) : (faultBytes c f).length = 20 := by
  simp [faultBytes]

/-! ## Flags as numbers -/

theorem bitsNat_pair (a b : Bool) : bitsNat [a, b] = a.toNat + 2 * b.toNat := rfl

theorem bitsNat_triple (a b c : Bool) : bitsNat [a, b, c] = a.toNat + 2 * b.toNat + 4 * c.toNat := by
  simp only [bitsNat]
  omega

/-- Along causes whose codes follow each other from `n + 1` on, the cause of code k has the weight 2 ^ (k - 1) in the flags
shifted up by `n`. -/
theorem sum_weights_eq_bitsNat (p : Cause → Bool) (l : List Cause) (n : Nat)
    (hcodes : l.map Cause.code = List.range' (n + 1) l.length) :
    (l.map (fun x => if p x then 2 ^ (x.code - 1) else 0)).sum = 2 ^ n * bitsNat (l.map p) := by
  induction l generalizing n with
  | nil => rfl
  | cons x l ih =>
    rw [List.map_cons, List.length_cons, List.range'_succ, List.cons.injEq] at hcodes
    obtain ⟨hx, hl⟩ := hcodes
    have htail := ih (n + 1) hl
    have hhead : (if p x then 2 ^ (x.code - 1) else 0) = 2 ^ n * (p x).toNat := by
      cases p x <;> simp [hx]
    simp only [List.map_cons, List.sum_cons, bitsNat, hhead, htail]
    ring

/-- Every cause stands in the cause set's number at the bit of its code (R168). -/
theorem causeBits_eq_sum (l : List Cause) :
    causeBits l = (allCauses.map (fun x => if x ∈ l then 2 ^ (x.code - 1) else 0)).sum := by
  have hsum := sum_weights_eq_bitsNat (fun x => l.contains x) allCauses 0 rfl
  simpa only [causeBits, pow_zero, one_mul, List.contains_iff_mem] using hsum.symm

/-! ## The two answers -/

/-- READ_ACCOUNTS of a channel in 0..31 (R167). -/
theorem exec_readAccounts {s : State} {r : Request} {rest : List Request} {c : ChanId} (hs : s.executes r rest)
    (hrow : r.row = .readAccounts) (hlen : r.args.length = 1) (hc : u8At r.args 0 = c.val) :
    exec .readAccounts s = .next (s.answered r rest .ok (accountBytes c (s.chan c).acct)) :=
  execRow_readOfChannel_of_lt hs hrow hlen hc (fun s c => accountBytes c (s.chan c).acct)

/-- READ_FAULT of a channel in 0..31 (R168). -/
theorem exec_readFault {s : State} {r : Request} {rest : List Request} {c : ChanId} (hs : s.executes r rest)
    (hrow : r.row = .readFault) (hlen : r.args.length = 1) (hc : u8At r.args 0 = c.val) :
    exec .readFault s = .next (s.answered r rest .ok (faultBytes c (s.chan c).sup.fault)) :=
  execRow_readOfChannel_of_lt hs hrow hlen hc (fun s c => faultBytes c (s.chan c).sup.fault)

/-- Settles O47: the two rows are reads of one channel, and the bytes they answer are the statement's once the flags and the
cause set are read as sums of bits. -/
theorem readAccountsAndFault : Obligations.ReadAccountsAndFault := by
  intro s r rest hs hlen
  refine ⟨fun hout => ⟨fun hrow => ?_, fun hrow => ?_⟩, ?inRange⟩
  · exact execRow_readOfChannel_of_ge hs hrow hlen hout (fun s c => accountBytes c (s.chan c).acct)
  · exact execRow_readOfChannel_of_ge hs hrow hlen hout (fun s c => faultBytes c (s.chan c).sup.fault)
  case inRange =>
    rintro c _ _ out hc rfl rfl
    refine ⟨fun hout hrow => ?_, fun hout hrow => ?_⟩
    · have hbytes : out = accountBytes c (s.chan c).acct := by rw [hout, accountBytes, bitsNat_triple]
      rw [hbytes]
      exact ⟨length_accountBytes .., exec_readAccounts hs hrow hlen hc⟩
    · have hbytes : out = faultBytes c (s.chan c).sup.fault := by
        rw [hout, faultBytes, causeBits_eq_sum, bitsNat_pair]
      rw [hbytes]
      exact ⟨length_faultBytes .., exec_readFault hs hrow hlen hc⟩

end Sys2Proof.Proofs
end

section
/-! The fields of a payload (Section 8.8): what each width holds, and that reading a field and writing it are inverse. -/

namespace Sys2Proof.Proofs

open Sys2Proof Sys2Proof.Machine

/-! ## What a field can hold -/

theorem u8At_lt (l : List Byte) (i : Nat) : u8At l i < 256 := (l.getD i 0).isLt

theorem u16At_lt (l : List Byte) (i : Nat) : u16At l i < 65536 := by
  have := u8At_lt l i
  have := u8At_lt l (i + 1)
  unfold u16At
  omega

theorem u32At_lt (l : List Byte) (i : Nat) : u32At l i < 4294967296 := by
  have := u16At_lt l i
  have := u16At_lt l (i + 2)
  unfold u32At
  omega

theorem s16At_bounds (l : List Byte) (i : Nat) : -32768 ≤ s16At l i ∧ s16At l i ≤ 32767 := by
  unfold s16At
  constructor
  · exact BitVec.le_toInt (BitVec.ofNat 16 (u16At l i))
  · have := BitVec.toInt_lt (x := BitVec.ofNat 16 (u16At l i))
    omega

theorem s32At_bounds (l : List Byte) (i : Nat) : -2147483648 ≤ s32At l i ∧ s32At l i ≤ 2147483647 := by
  unfold s32At
  constructor
  · exact BitVec.le_toInt (BitVec.ofNat 32 (u32At l i))
  · have := BitVec.toInt_lt (x := BitVec.ofNat 32 (u32At l i))
    omega

/-! ## A field that was read, written again -/

theorem ofNat_u8At (l : List Byte) (i : Nat) : BitVec.ofNat 8 (u8At l i) = l.getD i 0 := by
  simp [u8At]

theorem natBytes_one_u8At (l : List Byte) (i : Nat) : natBytes 1 (u8At l i) = [l.getD i 0] := by
  simp [natBytes, ofNat_u8At]

theorem natBytes_two_u16At (l : List Byte) (i : Nat) : natBytes 2 (u16At l i) = [l.getD i 0, l.getD (i + 1) 0] := by
  have h0 := u8At_lt l i
  have h1 := u8At_lt l (i + 1)
  have hhigh : u16At l i / 256 = u8At l i := by unfold u16At; omega
  have hlow : BitVec.ofNat 8 (u16At l i) = l.getD (i + 1) 0 := by
    rw [← ofNat_u8At]
    apply BitVec.eq_of_toNat_eq
    simp only [BitVec.toNat_ofNat, u16At]
    omega
  simp [natBytes, hhigh, hlow, ofNat_u8At]

theorem natBytes_four_u32At (l : List Byte) (i : Nat) :
    natBytes 4 (u32At l i) = [l.getD i 0, l.getD (i + 1) 0, l.getD (i + 2) 0, l.getD (i + 3) 0] := by
  have hsplit (x : Nat) : natBytes 4 x = natBytes 2 (x / 65536) ++ natBytes 2 (x % 65536) := by
    simp only [natBytes, List.cons_append, List.nil_append, List.cons.injEq, and_true]
    refine ⟨?_, ?_, ?_, ?_⟩ <;> apply BitVec.eq_of_toNat_eq <;> simp only [BitVec.toNat_ofNat] <;> omega
  have := u16At_lt l (i + 2)
  have hhigh : u32At l i / 65536 = u16At l i := by unfold u32At; omega
  have hlow : u32At l i % 65536 = u16At l (i + 2) := by unfold u32At; omega
  rw [hsplit, hhigh, hlow, natBytes_two_u16At, natBytes_two_u16At]
  rfl

theorem intBytes_two_s16At (l : List Byte) (i : Nat) : intBytes 2 (s16At l i) = [l.getD i 0, l.getD (i + 1) 0] := by
  rw [← natBytes_two_u16At]
  have := u16At_lt l i
  have h : (s16At l i % (256 ^ 2 : Nat)).toNat = u16At l i := by
    simp only [s16At, BitVec.toInt_eq_toNat_bmod, BitVec.toNat_ofNat, Int.bmod_def]
    split <;> omega
  rw [intBytes, h]

theorem intBytes_four_s32At (l : List Byte) (i : Nat) :
    intBytes 4 (s32At l i) = [l.getD i 0, l.getD (i + 1) 0, l.getD (i + 2) 0, l.getD (i + 3) 0] := by
  rw [← natBytes_four_u32At]
  have := u32At_lt l i
  have h : (s32At l i % (256 ^ 4 : Nat)).toNat = u32At l i := by
    simp only [s32At, BitVec.toInt_eq_toNat_bmod, BitVec.toNat_ofNat, Int.bmod_def]
    split <;> omega
  rw [intBytes, h]

theorem intBytes_of_natCast {n x : Nat} (h : x < 256 ^ n) : intBytes n (x : Int) = natBytes n x := by
  rw [intBytes, ← Int.natCast_mod, Int.toNat_natCast, Nat.mod_eq_of_lt h]

/-! ## A field that was written, read again -/

theorem toNat_ofNat_byte (x : Nat) : (BitVec.ofNat 8 x).toNat = x % 256 := BitVec.toNat_ofNat ..

theorem getD_append_add (a b : List Byte) (i : Nat) : (a ++ b).getD (a.length + i) 0 = b.getD i 0 := by
  simp [List.getD, List.getElem?_append_right]

/-- Reading past the first `n` bytes of a payload. -/
theorem u8At_append {a b : List Byte} {n : Nat} (h : a.length = n) (i : Nat) : u8At (a ++ b) (n + i) = u8At b i := by
  subst h
  rw [u8At, u8At, getD_append_add]

theorem u16At_append {a b : List Byte} {n : Nat} (h : a.length = n) (i : Nat) : u16At (a ++ b) (n + i) = u16At b i := by
  simp only [u16At, Nat.add_assoc, u8At_append h]

theorem u32At_append {a b : List Byte} {n : Nat} (h : a.length = n) (i : Nat) : u32At (a ++ b) (n + i) = u32At b i := by
  simp only [u32At, Nat.add_assoc, u16At_append h]

theorem s16At_append {a b : List Byte} {n : Nat} (h : a.length = n) (i : Nat) : s16At (a ++ b) (n + i) = s16At b i := by
  simp only [s16At, u16At_append h]

theorem s32At_append {a b : List Byte} {n : Nat} (h : a.length = n) (i : Nat) : s32At (a ++ b) (n + i) = s32At b i := by
  simp only [s32At, u32At_append h]

theorem u8At_natBytes_one (x : Nat) (b : List Byte) : u8At (natBytes 1 x ++ b) 0 = x % 256 := by
  simp [u8At, natBytes]

theorem u16At_natBytes_two (x : Nat) (b : List Byte) : u16At (natBytes 2 x ++ b) 0 = x % 65536 := by
  simp only [u16At, u8At, natBytes, List.cons_append, List.getD_cons_zero, List.getD_cons_succ, zero_add, toNat_ofNat_byte]
  omega

theorem u32At_natBytes_four (x : Nat) (b : List Byte) : u32At (natBytes 4 x ++ b) 0 = x % 4294967296 := by
  simp only [u32At, u16At, u8At, natBytes, List.cons_append, List.getD_cons_zero, List.getD_cons_succ, zero_add,
    Nat.reduceAdd, toNat_ofNat_byte]
  omega

theorem s16At_intBytes_two {x : Int} (h : -32768 ≤ x ∧ x ≤ 32767) (b : List Byte) : s16At (intBytes 2 x ++ b) 0 = x := by
  rw [s16At, intBytes, u16At_natBytes_two, BitVec.toInt_eq_toNat_bmod, BitVec.toNat_ofNat, Int.bmod_def]
  split <;> omega

theorem s32At_intBytes_four {x : Int} (h : -2147483648 ≤ x ∧ x ≤ 2147483647) (b : List Byte) :
    s32At (intBytes 4 x ++ b) 0 = x := by
  rw [s32At, intBytes, u32At_natBytes_four, BitVec.toInt_eq_toNat_bmod, BitVec.toNat_ofNat, Int.bmod_def]
  split <;> omega

theorem u32At_intBytes_four {x : Int} (h : 0 ≤ x ∧ x ≤ 4294967295) (b : List Byte) :
    (u32At (intBytes 4 x ++ b) 0 : Int) = x := by
  rw [intBytes, u32At_natBytes_four]
  omega

/-- A payload of known length is the list of its bytes. -/
theorem eq_map_getD {l : List Byte} {n : Nat} (h : l.length = n) : l = (List.range n).map (fun i => l.getD i 0) := by
  subst h
  refine List.ext_getElem (by simp) fun i hi _ => ?_
  simp [List.getD, List.getElem?_eq_getElem hi]

end Sys2Proof.Proofs
end

section
/-! The seven table record forms (R156, R164) and their write checks: what each `read...` answers, once per form. -/

namespace Sys2Proof.Proofs

open Sys2Proof Sys2Proof.Machine

/-! ## Codes -/

theorem stepOp_ofCode_iff (n : Nat) (op : StepOp) : StepOp.ofCode n = some op ↔ n = op.code := by
  constructor
  · intro h
    unfold StepOp.ofCode at h
    split at h <;> cases h <;> rfl
  · rintro rfl
    cases op <;> rfl

theorem termKind_ofCode_iff (n : Nat) (k : TermKind) : TermKind.ofCode n = some k ↔ n = k.code := by
  constructor
  · intro h
    unfold TermKind.ofCode at h
    split at h <;> cases h <;> rfl
  · rintro rfl
    cases k <;> rfl

theorem termAction_ofCode_iff (n : Nat) (a : TermAction) : TermAction.ofCode n = some a ↔ n = a.code := by
  constructor
  · intro h
    unfold TermAction.ofCode at h
    split at h <;> cases h <;> rfl
  · rintro rfl
    cases a <;> rfl

theorem role_ofCode_iff (n : Nat) (r : Role) : Role.ofCode n = some r ↔ n = r.code := by
  constructor
  · intro h
    unfold Role.ofCode at h
    split at h <;> cases h <;> rfl
  · rintro rfl
    cases r <;> rfl

theorem policy_ofCode_iff (n : Nat) (p : Policy) : Policy.ofCode n = some p ↔ n = p.code := by
  constructor
  · intro h
    unfold Policy.ofCode at h
    split at h <;> cases h <;> rfl
  · rintro rfl
    cases p <;> rfl

theorem faultMode_ofCode_iff (n : Nat) (m : FaultMode) : FaultMode.ofCode n = some m ↔ n = m.code := by
  constructor
  · intro h
    unfold FaultMode.ofCode at h
    split at h <;> cases h <;> rfl
  · rintro rfl
    cases m <;> rfl

theorem repeat_ofCode_iff (n : Nat) (r : Repeat) : Repeat.ofCode n = some r ↔ n = r.code := by
  constructor
  · intro h
    unfold Repeat.ofCode at h
    split at h <;> cases h <;> rfl
  · rintro rfl
    cases r <;> rfl

theorem readBool_iff (n : Nat) (b : Bool) : readBool n = some b ↔ n = b.toNat := by
  constructor
  · intro h
    unfold readBool at h
    split at h <;> cases h <;> rfl
  · rintro rfl
    cases b <;> rfl

/-! ### Which codes are defined -/

theorem stepOp_isSome_iff (n : Nat) : (StepOp.ofCode n).isSome = true ↔ n ∈ [0, 1, 2, 3, 4, 5, 8, 9, 10, 11, 12] := by
  unfold StepOp.ofCode
  split <;> simp_all

theorem termKind_isSome_iff (n : Nat) : (TermKind.ofCode n).isSome = true ↔ n ≤ 8 := by
  unfold TermKind.ofCode
  split
  all_goals simp_all
  omega

theorem termAction_isSome_iff (n : Nat) : (TermAction.ofCode n).isSome = true ↔ n ≤ 4 := by
  unfold TermAction.ofCode
  split
  all_goals simp_all
  omega

theorem role_isSome_iff (n : Nat) : (Role.ofCode n).isSome = true ↔ n ≤ 2 := by
  unfold Role.ofCode
  split
  all_goals simp_all
  omega

theorem policy_isSome_iff (n : Nat) : (Policy.ofCode n).isSome = true ↔ n ≤ 3 := by
  unfold Policy.ofCode
  split
  all_goals simp_all
  omega

theorem faultMode_isSome_iff (n : Nat) : (FaultMode.ofCode n).isSome = true ↔ n ≤ 1 := by
  unfold FaultMode.ofCode
  split
  all_goals simp_all
  omega

theorem repeat_isSome_iff (n : Nat) : (Repeat.ofCode n).isSome = true ↔ n ≤ 1 := by
  unfold Repeat.ofCode
  split
  all_goals simp_all
  omega

theorem readBool_isSome_iff (n : Nat) : (readBool n).isSome = true ↔ n ≤ 1 := by
  unfold readBool
  split
  all_goals simp_all
  omega

/-! ## What each read answers -/

/-- The threshold of a terminator slot: signed for TEMP_ABOVE only (R156). -/
def thresholdAt (k : TermKind) (l : List Byte) (i : Nat) : Int :=
  if k = .tempAbove then s32At l i else (u32At l i : Int)

theorem readTerminator_eq {l : List Byte} {i : Nat} {k : TermKind} {a : TermAction}
    (hk : TermKind.ofCode (u8At l i / 16) = some k) (ha : TermAction.ofCode (u8At l i % 16) = some a) :
    readTerminator l i =
      if u16At l (i + 1) ≤ 1023 ∧ thresholdInRange k (thresholdAt k l (i + 3)) = true then
        some { kind := k, action := a, target := u16At l (i + 1), threshold := thresholdAt k l (i + 3) }
      else none := by
  unfold readTerminator
  rw [hk, ha]
  cases k <;> rfl

theorem readTerminator_iff (l : List Byte) (i : Nat) (t : Terminator) :
    readTerminator l i = some t ↔
      u8At l i / 16 = t.kind.code ∧ u8At l i % 16 = t.action.code ∧ u16At l (i + 1) = t.target ∧
        thresholdAt t.kind l (i + 3) = t.threshold ∧ t.wf := by
  rw [← termKind_ofCode_iff, ← termAction_ofCode_iff]
  obtain ⟨k, a, target, threshold⟩ := t
  cases hk : TermKind.ofCode (u8At l i / 16) with
  | none => simp [readTerminator, hk]
  | some k' =>
    cases ha : TermAction.ofCode (u8At l i % 16) with
    | none => simp [readTerminator, hk, ha]
    | some a' =>
      rw [readTerminator_eq hk ha]
      simp only [Option.some.injEq]
      constructor
      · intro h
        split at h
        · next hok =>
          rw [Option.some.injEq, Terminator.mk.injEq] at h
          obtain ⟨rfl, rfl, rfl, rfl⟩ := h
          exact ⟨rfl, rfl, rfl, rfl, hok⟩
        · cases h
      · rintro ⟨rfl, rfl, rfl, rfl, hwf⟩
        exact if_pos hwf

/-- Which bytes of a terminator slot pass (R40, R43). -/
theorem readTerminator_isSome_iff (l : List Byte) (i : Nat) :
    (readTerminator l i).isSome = true ↔
      u8At l i / 16 ≤ 8 ∧ u8At l i % 16 ≤ 4 ∧ u16At l (i + 1) ≤ 1023 ∧
        (u8At l i / 16 = 0 → u32At l (i + 3) = 0) ∧ (u8At l i / 16 ∈ [1, 2, 8] → u32At l (i + 3) ≤ 65535) ∧
        (u8At l i / 16 = 3 → u32At l (i + 3) ≤ 32768) ∧
        (u8At l i / 16 = 7 → -32767 ≤ s32At l (i + 3) ∧ s32At l (i + 3) ≤ 32767) := by
  rw [← termKind_isSome_iff, ← termAction_isSome_iff]
  cases hk : TermKind.ofCode (u8At l i / 16) with
  | none => simp [readTerminator, hk]
  | some k =>
    cases ha : TermAction.ofCode (u8At l i % 16) with
    | none => simp [readTerminator, hk, ha]
    | some a =>
      have h32 := u32At_lt l (i + 3)
      rw [readTerminator_eq hk ha, (termKind_ofCode_iff _ k).mp hk]
      cases k <;> simp [thresholdInRange, thresholdAt, TermKind.code] <;> omega

theorem readStep_iff (l : List Byte) (r : StepRecord) :
    readStep l = some r ↔
      (u8At l 0 = 0 ∧ r = StepRecord.reset) ∨
        (r.op ≠ .invalid ∧ u8At l 0 = r.op.code ∧ u8At l 1 ≤ 3 ∧ r.report = (u8At l 1 % 2 == 1) ∧
          r.cycle = (u8At l 1 / 2 == 1) ∧ s32At l 2 = r.a ∧ u16At l 6 = r.b ∧ u8At l 8 = r.g ∧ u16At l 9 = r.guard ∧
          operandsInRange r.op r.a r.b r.g = true ∧ readTerminator l 11 = some r.slot1 ∧
          readTerminator l 18 = some r.slot2 ∧ readTerminator l 25 = some r.slot3) := by
  have hzero : u8At l 0 = 0 ↔ StepOp.ofCode (u8At l 0) = some .invalid := (stepOp_ofCode_iff _ .invalid).symm
  rw [hzero, ← stepOp_ofCode_iff]
  obtain ⟨op, report, cycle, a, b, g, guard, t1, t2, t3⟩ := r
  unfold readStep
  split
  · next h => simp [h]
  · next h => simp only [h, Option.some.injEq]; grind
  · next op' hne h =>
    simp only [h, Option.some.injEq]
    grind

end Sys2Proof.Proofs
end

section
/-! The write checks (O15): every record that a read admits is well formed and is stored as it was carried. -/

namespace Sys2Proof.Proofs

open Sys2Proof Sys2Proof.Machine

/-! ## The other six forms -/

theorem readProgram_iff (l : List Byte) (d : ProgramDesc) :
    readProgram l = some d ↔
      (u8At l 0 = 0 ∧ d = ProgramDesc.reset) ∨
        (d.valid = true ∧ u8At l 0 = 1 ∧ u8At l 1 ≤ 3 ∧ u16At l 2 = d.base ∧ u16At l 4 = d.limit ∧ u16At l 6 = d.ichgMax ∧
          u16At l 8 = d.idisMax ∧ d.allowCharge = (u8At l 1 % 2 == 1) ∧ d.allowDischarge = (u8At l 1 / 2 == 1) ∧
          d.base ≤ 1023 ∧ 1 ≤ d.limit ∧ d.limit ≤ 1024 ∧ d.base + d.limit ≤ 1024 ∧ d.ichgMax ≤ 32767 ∧
          d.idisMax ≤ 32767) := by
  have h0 : u8At l 0 = 0 ↔ readBool (u8At l 0) = some false := (readBool_iff _ false).symm
  have h1 : u8At l 0 = 1 ↔ readBool (u8At l 0) = some true := (readBool_iff _ true).symm
  rw [h0, h1]
  obtain ⟨valid, base, limit, ichg, idis, ac, ad⟩ := d
  unfold readProgram
  split
  · next h => simp [h]
  · next h => simp only [h, Option.some.injEq]; grind
  · next h => simp only [h, Option.some.injEq]; grind

theorem readSegment_iff (l : List Byte) (g : Segment) :
    readSegment l = some g ↔ 1 ≤ g.hold ∧ u16At l 2 = g.hold ∧ s16At l 0 = g.current := by
  obtain ⟨current, hold⟩ := g
  unfold readSegment
  grind

theorem readProfile_iff (l : List Byte) (d : ProfileDesc) :
    readProfile l = some d ↔
      (u8At l 0 = 0 ∧ d = ProfileDesc.reset) ∨
        (d.valid = true ∧ u8At l 0 = 1 ∧ u8At l 1 = d.rep.code ∧ u16At l 2 = d.first ∧ u16At l 4 = d.count ∧
          d.first ≤ 2047 ∧ 1 ≤ d.count ∧ d.count ≤ 2048 ∧ d.first + d.count ≤ 2048) := by
  have h0 : u8At l 0 = 0 ↔ readBool (u8At l 0) = some false := (readBool_iff _ false).symm
  have h1 : u8At l 0 = 1 ↔ readBool (u8At l 0) = some true := (readBool_iff _ true).symm
  rw [h0, h1, ← repeat_ofCode_iff]
  obtain ⟨valid, first, count, rep⟩ := d
  unfold readProfile
  split
  · next h => simp [h]
  · next h => simp only [h, Option.some.injEq]; grind
  · next h =>
    simp only [h, Option.some.injEq]
    cases hrep : Repeat.ofCode (u8At l 1) <;> grind

/-- The order and the ranges of a limit set's bounds (R103). -/
abbrev limitsInOrder (x : LimitSet) : Prop :=
  x.iHardMax ≤ 32768 ∧ -32767 ≤ x.tHardMin ∧ -32767 ≤ x.tHardMax ∧ -32767 ≤ x.tSoftMax ∧ x.vHardMin < x.vHardMax ∧
    x.vSoftMin < x.vSoftMax ∧ x.vHardMin ≤ x.vSoftMin ∧ x.vSoftMax ≤ x.vHardMax ∧ x.tHardMin < x.tHardMax ∧
    x.tHardMin < x.tSoftMax ∧ x.tSoftMax ≤ x.tHardMax

theorem readLimit_iff (l : List Byte) (x : LimitSet) :
    readLimit l = some x ↔
      (u8At l 0 = 0 ∧ x = LimitSet.reset) ∨
        (x.valid = true ∧ u8At l 0 = 1 ∧ u8At l 1 = x.tRequired.toNat ∧ u16At l 2 = x.vHardMin ∧ u16At l 4 = x.vHardMax ∧
          u16At l 6 = x.iHardMax ∧ s16At l 8 = x.tHardMin ∧ s16At l 10 = x.tHardMax ∧ u16At l 12 = x.vSoftMin ∧
          u16At l 14 = x.vSoftMax ∧ s16At l 16 = x.tSoftMax ∧ u16At l 18 = x.tolerance ∧ limitsInOrder x) := by
  have h0 : u8At l 0 = 0 ↔ readBool (u8At l 0) = some false := (readBool_iff _ false).symm
  have h1 : u8At l 0 = 1 ↔ readBool (u8At l 0) = some true := (readBool_iff _ true).symm
  rw [h0, h1, ← readBool_iff]
  obtain ⟨valid, req, vmin, vmax, imax, tmin, tmax, smin, smax, ts, tol⟩ := x
  unfold readLimit
  split
  · next h => simp [h]
  · next h => simp only [h, Option.some.injEq]; grind
  · next h =>
    simp only [h, Option.some.injEq]
    cases hreq : readBool (u8At l 1) with
    | none => simp
    | some req' =>
      simp only [Option.some.injEq]
      constructor
      · intro hx
        split at hx
        · next hok =>
          rw [Option.some.injEq, LimitSet.mk.injEq] at hx
          obtain ⟨rfl, rfl, rfl, rfl, rfl, rfl, rfl, rfl, rfl, rfl, rfl⟩ := hx
          exact .inr ⟨rfl, trivial, rfl, rfl, rfl, rfl, rfl, rfl, rfl, rfl, rfl, rfl, hok⟩
        · cases hx
      · rintro (⟨hx, -⟩ | ⟨rfl, -, rfl, rfl, rfl, rfl, rfl, rfl, rfl, rfl, rfl, rfl, hok⟩)
        · cases hx
        · exact if_pos hok

theorem readAccept_iff (l : List Byte) (e : AcceptEntry) :
    readAccept l = some e ↔
      u8At l 0 % 16 = e.enable.toNat ∧ u8At l 0 / 16 = e.role.code ∧ l.getD 1 0 = e.tag ∧ l.getD 2 0 = e.mask ∧
        u8At l 3 = e.channel.val := by
  rw [← readBool_iff, ← role_ofCode_iff]
  obtain ⟨enable, tag, mask, channel, role⟩ := e
  unfold readAccept
  split
  · next en r hen hr =>
    simp only [hen, hr, Option.some.injEq]
    have := channel.isLt
    grind
  · next hbad =>
    simp only [reduceCtorEq, false_iff, not_and]
    exact fun hen hr => absurd hr (hbad _ _ hen)

/-- The ranges of a configuration record's fields (R124). -/
abbrev configInRange (k : ConfigRec) : Prop :=
  k.stage ≤ 63 ∧ 1 ≤ k.period ∧ k.period ≤ 10000 ∧ 1 ≤ k.gapLimit ∧ k.gapLimit ≤ 16 ∧ 2 ≤ k.silenceMult ∧
    k.silenceMult ≤ 64 ∧ k.limitSet ≤ 15

theorem readConfig_iff (l : List Byte) (k : ConfigRec) :
    readConfig l = some k ↔
      (u8At l 0 = 0 ∧ k = ConfigRec.reset) ∨
        (k.configured = true ∧ u8At l 0 = 1 ∧ u8At l 7 = k.policy.code ∧ u8At l 8 = k.mode.code ∧
          u8At l 9 = k.shadow.toNat ∧ u8At l 10 = k.stateReport.toNat ∧ u8At l 1 = k.stage ∧ u16At l 2 = k.period ∧
          u8At l 4 = k.gapLimit ∧ u8At l 5 = k.silenceMult ∧ u8At l 6 = k.limitSet ∧ configInRange k) := by
  have h0 : u8At l 0 = 0 ↔ readBool (u8At l 0) = some false := (readBool_iff _ false).symm
  have h1 : u8At l 0 = 1 ↔ readBool (u8At l 0) = some true := (readBool_iff _ true).symm
  rw [h0, h1, ← policy_ofCode_iff, ← faultMode_ofCode_iff, ← readBool_iff, ← readBool_iff]
  obtain ⟨configured, stage, period, gap, mult, set, policy, mode, shadow, report⟩ := k
  unfold readConfig
  split
  · next h => simp [h]
  · next h => simp only [h, Option.some.injEq]; grind
  · next h =>
    simp only [h, Option.some.injEq]
    split
    · next p m sh re hp hm hsh hre =>
      simp only [hp, hm, hsh, hre, Option.some.injEq]
      constructor
      · intro hx
        split at hx
        · next hok =>
          rw [Option.some.injEq, ConfigRec.mk.injEq] at hx
          obtain ⟨rfl, rfl, rfl, rfl, rfl, rfl, rfl, rfl, rfl, rfl⟩ := hx
          obtain ⟨hstage, hone, hperiod, hgap, hgap', hmult, hmult', hset⟩ := hok
          exact .inr ⟨rfl, trivial, rfl, rfl, rfl, rfl, rfl, rfl, rfl, rfl, rfl, hstage, hone, hperiod, hgap, hgap', hmult,
            hmult', hset⟩
        · cases hx
      · rintro (⟨hx, -⟩ | ⟨rfl, -, rfl, rfl, rfl, rfl, rfl, rfl, rfl, rfl, rfl, hok⟩)
        · cases hx
        · exact if_pos hok
    · next hbad =>
      simp only [reduceCtorEq, false_and, true_and, false_or, false_iff, not_and]
      exact fun _ hp hm hsh hre => absurd hre (hbad _ _ _ _ hp hm hsh)

/-! ## A record that passes is well formed -/

theorem readTerminator_wf {l : List Byte} {i : Nat} {t : Terminator} (h : readTerminator l i = some t) : t.wf :=
  ((readTerminator_iff l i t).mp h).2.2.2.2

theorem reset_step_wf : StepRecord.reset.wf := by decide

theorem readStep_wf {l : List Byte} {r : StepRecord} (h : readStep l = some r) : r.wf := by
  obtain ⟨-, rfl⟩ | ⟨hop, -, -, -, -, ha, hb, hg, hguard, hrange, h1, h2, h3⟩ := (readStep_iff l r).mp h
  · exact reset_step_wf
  · have := s32At_bounds l 2
    have := u16At_lt l 6
    have := u8At_lt l 8
    have := u16At_lt l 9
    exact ⟨fun h => absurd h hop, by omega, by omega, by omega, by omega, by omega, hrange, readTerminator_wf h1,
      readTerminator_wf h2, readTerminator_wf h3⟩

theorem readProgram_wf {l : List Byte} {d : ProgramDesc} (h : readProgram l = some d) : d.wf := by
  obtain ⟨-, rfl⟩ | ⟨hv, -, -, -, -, -, -, -, -, hrange⟩ := (readProgram_iff l d).mp h
  · exact ⟨fun _ => rfl, fun h => by cases h⟩
  · exact ⟨fun h => by simp [hv] at h, fun _ => hrange⟩

theorem readSegment_wf {l : List Byte} {g : Segment} (h : readSegment l = some g) : g.wf := by
  obtain ⟨hone, hhold, hcur⟩ := (readSegment_iff l g).mp h
  have := u16At_lt l 2
  have := s16At_bounds l 0
  exact ⟨hone, by omega, by omega, by omega⟩

theorem readProfile_wf {l : List Byte} {d : ProfileDesc} (h : readProfile l = some d) : d.wf := by
  obtain ⟨-, rfl⟩ | ⟨hv, -, -, -, -, hrange⟩ := (readProfile_iff l d).mp h
  · exact ⟨fun _ => rfl, fun h => by cases h⟩
  · exact ⟨fun h => by simp [hv] at h, fun _ => hrange⟩

theorem readLimit_wf {l : List Byte} {x : LimitSet} (h : readLimit l = some x) : x.wf := by
  obtain ⟨-, rfl⟩ | ⟨hv, -, -, -, hvmax, -, -, htmax, -, -, -, htol, hi, htmin, -, -, horder⟩ := (readLimit_iff l x).mp h
  · exact ⟨fun _ => rfl, fun h => by cases h⟩
  · have := u16At_lt l 4
    have := u16At_lt l 18
    have := s16At_bounds l 10
    exact ⟨fun h => by simp [hv] at h, fun _ => ⟨by omega, hi, htmin, by omega, by omega, horder⟩⟩

theorem readConfig_wf {l : List Byte} {k : ConfigRec} (h : readConfig l = some k) : k.wf := by
  obtain ⟨-, rfl⟩ | ⟨hv, -, -, -, -, -, -, -, -, -, -, hrange⟩ := (readConfig_iff l k).mp h
  · exact ⟨fun _ => rfl, fun h => by cases h⟩
  · exact ⟨fun h => by simp [hv] at h, fun _ => hrange⟩

/-! ## A record that passes is stored as it was carried -/

/-- The two flags of a byte that holds nothing else. -/
theorem bitsNat_of_le_three {x : Nat} (h : x ≤ 3) : bitsNat [x % 2 == 1, x / 2 == 1] = x := by
  interval_cases x <;> rfl

theorem boolByte_of_toNat {l : List Byte} {i : Nat} {b : Bool} (h : u8At l i = b.toNat) : boolByte b = [l.getD i 0] := by
  rw [← ofNat_u8At, h]
  cases b <;> rfl

theorem natBytes_one_of_u8At {l : List Byte} {i x : Nat} (h : u8At l i = x) : natBytes 1 x = [l.getD i 0] :=
  h ▸ natBytes_one_u8At l i

theorem natBytes_two_of_u16At {l : List Byte} {i x : Nat} (h : u16At l i = x) :
    natBytes 2 x = [l.getD i 0, l.getD (i + 1) 0] := h ▸ natBytes_two_u16At l i

theorem intBytes_two_of_s16At {l : List Byte} {i : Nat} {x : Int} (h : s16At l i = x) :
    intBytes 2 x = [l.getD i 0, l.getD (i + 1) 0] := h ▸ intBytes_two_s16At l i

theorem intBytes_four_of_s32At {l : List Byte} {i : Nat} {x : Int} (h : s32At l i = x) :
    intBytes 4 x = [l.getD i 0, l.getD (i + 1) 0, l.getD (i + 2) 0, l.getD (i + 3) 0] := h ▸ intBytes_four_s32At l i

theorem terminatorBytes_of_read {l : List Byte} {i : Nat} {t : Terminator} (h : readTerminator l i = some t) :
    terminatorBytes t = (List.range 7).map (fun j => l.getD (i + j) 0) := by
  obtain ⟨hk, ha, htarget, hth, -⟩ := (readTerminator_iff l i t).mp h
  have hcode : u8At l i = t.kind.code * 16 + t.action.code := by omega
  have hbytes : intBytes 4 t.threshold = [l.getD (i + 3) 0, l.getD (i + 4) 0, l.getD (i + 5) 0, l.getD (i + 6) 0] := by
    rw [← hth, thresholdAt]
    split
    · exact intBytes_four_s32At l (i + 3)
    · rw [intBytes_of_natCast (u32At_lt l (i + 3))]
      exact natBytes_four_u32At l (i + 3)
  rw [terminatorBytes, natBytes_one_of_u8At hcode, natBytes_two_of_u16At htarget, hbytes]
  rfl

theorem stepBytes_of_read {l : List Byte} {r : StepRecord} (hlen : l.length = 32) (hop : u8At l 0 ≠ 0)
    (h : readStep l = some r) : stepBytes r = l := by
  obtain ⟨h0, -⟩ | ⟨-, hcode, hflags, hreport, hcycle, ha, hb, hg, hguard, -, h1, h2, h3⟩ := (readStep_iff l r).mp h
  · exact absurd h0 hop
  · rw [stepBytes, natBytes_one_of_u8At hcode, hreport, hcycle, bitsNat_of_le_three hflags, natBytes_one_u8At,
      intBytes_four_of_s32At ha, natBytes_two_of_u16At hb, natBytes_one_of_u8At hg, natBytes_two_of_u16At hguard,
      terminatorBytes_of_read h1, terminatorBytes_of_read h2, terminatorBytes_of_read h3]
    conv_rhs => rw [eq_map_getD hlen]
    rfl

/-- The first bytes of a payload of known length, followed by the bytes sent as 0. -/
theorem take_append_eq {l : List Byte} {n k : Nat} (hlen : l.length = n) (hk : k ≤ n) :
    l.take k = (List.range k).map (fun i => l.getD i 0) := by
  conv_lhs => rw [eq_map_getD hlen]
  rw [← List.map_take, List.take_range, Nat.min_eq_left hk]

theorem programBytes_of_read {l : List Byte} {d : ProgramDesc} (hlen : l.length = 12) (hvalid : u8At l 0 ≠ 0)
    (h : readProgram l = some d) : programBytes d = l.take 10 ++ List.replicate 2 0 := by
  obtain ⟨h0, -⟩ | ⟨hv, h1, hflags, hbase, hlimit, hchg, hdis, hac, had, -⟩ := (readProgram_iff l d).mp h
  · exact absurd h0 hvalid
  · rw [programBytes, boolByte_of_toNat (h1.trans (by rw [hv]; rfl)), hac, had, bitsNat_of_le_three hflags,
      natBytes_one_u8At, natBytes_two_of_u16At hbase, natBytes_two_of_u16At hlimit, natBytes_two_of_u16At hchg,
      natBytes_two_of_u16At hdis, take_append_eq hlen (by decide)]
    rfl

theorem segmentBytes_of_read {l : List Byte} {g : Segment} (hlen : l.length = 4) (h : readSegment l = some g) :
    segmentBytes g = l := by
  obtain ⟨-, hhold, hcur⟩ := (readSegment_iff l g).mp h
  rw [segmentBytes, intBytes_two_of_s16At hcur, natBytes_two_of_u16At hhold]
  conv_rhs => rw [eq_map_getD hlen]
  rfl

theorem profileBytes_of_read {l : List Byte} {d : ProfileDesc} (hlen : l.length = 6) (hvalid : u8At l 0 ≠ 0)
    (h : readProfile l = some d) : profileBytes d = l := by
  obtain ⟨h0, -⟩ | ⟨hv, h1, hrep, hfirst, hcount, -⟩ := (readProfile_iff l d).mp h
  · exact absurd h0 hvalid
  · rw [profileBytes, boolByte_of_toNat (h1.trans (by rw [hv]; rfl)), natBytes_one_of_u8At hrep,
      natBytes_two_of_u16At hfirst, natBytes_two_of_u16At hcount]
    conv_rhs => rw [eq_map_getD hlen]
    rfl

theorem limitBytes_of_read {l : List Byte} {x : LimitSet} (hlen : l.length = 24) (hvalid : u8At l 0 ≠ 0)
    (h : readLimit l = some x) : limitBytes x = l.take 20 ++ List.replicate 4 0 := by
  obtain ⟨h0, -⟩ | ⟨hv, h1, hreq, h2, h4, h6, h8, h10, h12, h14, h16, h18, -⟩ := (readLimit_iff l x).mp h
  · exact absurd h0 hvalid
  · rw [limitBytes, boolByte_of_toNat (h1.trans (by rw [hv]; rfl)), boolByte_of_toNat hreq, natBytes_two_of_u16At h2,
      natBytes_two_of_u16At h4, natBytes_two_of_u16At h6, intBytes_two_of_s16At h8, intBytes_two_of_s16At h10,
      natBytes_two_of_u16At h12, natBytes_two_of_u16At h14, intBytes_two_of_s16At h16, natBytes_two_of_u16At h18,
      take_append_eq hlen (by decide)]
    rfl

theorem acceptBytes_of_read {l : List Byte} {e : AcceptEntry} (hlen : l.length = 4) (h : readAccept l = some e) :
    acceptBytes e = l := by
  obtain ⟨hen, hrole, htag, hmask, hchan⟩ := (readAccept_iff l e).mp h
  have hcode : u8At l 0 = e.role.code * 16 + e.enable.toNat := by omega
  rw [acceptBytes, natBytes_one_of_u8At hcode, ← htag, ← hmask, natBytes_one_of_u8At hchan]
  conv_rhs => rw [eq_map_getD hlen]
  rfl

theorem configBytes_of_read {l : List Byte} {k : ConfigRec} (hlen : l.length = 16) (hconf : u8At l 0 ≠ 0)
    (h : readConfig l = some k) : configBytes k = l.take 11 ++ List.replicate 5 0 := by
  obtain ⟨h0, -⟩ | ⟨hv, h1, hpolicy, hmode, hshadow, hreport, hstage, hperiod, hgap, hmult, hset, -⟩ :=
    (readConfig_iff l k).mp h
  · exact absurd h0 hconf
  · rw [configBytes, boolByte_of_toNat (h1.trans (by rw [hv]; rfl)), natBytes_one_of_u8At hstage,
      natBytes_two_of_u16At hperiod, natBytes_one_of_u8At hgap, natBytes_one_of_u8At hmult, natBytes_one_of_u8At hset,
      natBytes_one_of_u8At hpolicy, natBytes_one_of_u8At hmode, boolByte_of_toNat hshadow, boolByte_of_toNat hreport,
      take_append_eq hlen (by decide)]
    rfl

/-! ## The records of a request -/

theorem readRecords_cons {α : Type} (read : List Byte → Option α) (size n : Nat) (l : List Byte) (r : α) (rs : List α) :
    readRecords read size (n + 1) l = some (r :: rs) ↔
      read (l.take size) = some r ∧ readRecords read size n (l.drop size) = some rs := by
  rw [readRecords]
  cases read (l.take size) <;> cases readRecords read size n (l.drop size) <;> simp

theorem drop_drop_succ (l : List Byte) (size i : Nat) : (l.drop size).drop (i * size) = l.drop ((i + 1) * size) := by
  rw [List.drop_drop, Nat.succ_mul, Nat.add_comm]

theorem readRecords_none_iff {α : Type} (read : List Byte → Option α) (size n : Nat) (l : List Byte) :
    readRecords read size n l = none ↔ ∃ i, i < n ∧ read ((l.drop (i * size)).take size) = none := by
  induction n generalizing l with
  | zero => simp [readRecords]
  | succ n ih =>
    have hstep : readRecords read size (n + 1) l = none ↔
        read (l.take size) = none ∨ readRecords read size n (l.drop size) = none := by
      rw [readRecords]
      cases read (l.take size) <;> cases readRecords read size n (l.drop size) <;> simp
    rw [hstep, ih]
    constructor
    · rintro (h | ⟨i, hi, h⟩)
      · exact ⟨0, Nat.succ_pos n, by simpa using h⟩
      · exact ⟨i + 1, Nat.succ_lt_succ hi, by rwa [← drop_drop_succ]⟩
    · rintro ⟨_ | i, hi, h⟩
      · exact .inl (by simpa using h)
      · exact .inr ⟨i, Nat.lt_of_succ_lt_succ hi, by rwa [drop_drop_succ]⟩

theorem readRecords_get {α : Type} {read : List Byte → Option α} {size n : Nat} {l : List Byte} {rs : List α}
    (h : readRecords read size n l = some rs) :
    rs.length = n ∧ ∀ i, i < n → rs[i]? = read ((l.drop (i * size)).take size) := by
  induction n generalizing l rs with
  | zero =>
    cases h
    exact ⟨rfl, fun i hi => absurd hi (Nat.not_lt_zero i)⟩
  | succ n ih =>
    cases rs with
    | nil =>
      rw [readRecords] at h
      cases hr : read (l.take size) <;> cases ht : readRecords read size n (l.drop size) <;> simp [hr, ht] at h
    | cons r rs =>
      obtain ⟨hread, hrest⟩ := (readRecords_cons ..).mp h
      obtain ⟨hlen, hget⟩ := ih hrest
      refine ⟨by simp [hlen], fun i hi => ?_⟩
      cases i with
      | zero => simp [hread]
      | succ i => rw [List.getElem?_cons_succ, hget i (Nat.lt_of_succ_lt_succ hi), drop_drop_succ]

end Sys2Proof.Proofs
end

section
/-! Which bytes of each record form pass their write checks, and WriteChecks. -/

namespace Sys2Proof.Proofs

open Sys2Proof Sys2Proof.Machine

theorem isSome_iff_exists_eq {α : Type} (o : Option α) : o.isSome = true ↔ ∃ x, o = some x := Option.isSome_iff_exists

theorem readStep_isSome_of_code {l : List Byte} {op : StepOp} (hop : StepOp.ofCode (u8At l 0) = some op)
    (hne : op ≠ .invalid) :
    (readStep l).isSome = true ↔
      u8At l 1 ≤ 3 ∧ operandsInRange op (s32At l 2) (u16At l 6) (u8At l 8) = true ∧
        (readTerminator l 11).isSome = true ∧ (readTerminator l 18).isSome = true ∧
        (readTerminator l 25).isSome = true := by
  rw [stepOp_ofCode_iff] at hop
  constructor
  · intro h
    obtain ⟨r, hr⟩ := Option.isSome_iff_exists.mp h
    obtain ⟨h0, -⟩ | ⟨-, hcode, hflags, -, -, ha, hb, hg, -, hrange, h1, h2, h3⟩ := (readStep_iff l r).mp hr
    · rw [hop] at h0
      cases op <;> simp_all [StepOp.code]
    · have hsame : r.op = op := by
        rw [hop, ← stepOp_ofCode_iff, (stepOp_ofCode_iff _ op).mpr rfl] at hcode
        exact (Option.some.inj hcode).symm
      rw [ha, hb, hg, ← hsame, h1, h2, h3]
      exact ⟨hflags, hrange, rfl, rfl, rfl⟩
  · rintro ⟨hflags, hrange, h1, h2, h3⟩
    obtain ⟨t1, h1⟩ := Option.isSome_iff_exists.mp h1
    obtain ⟨t2, h2⟩ := Option.isSome_iff_exists.mp h2
    obtain ⟨t3, h3⟩ := Option.isSome_iff_exists.mp h3
    exact Option.isSome_iff_exists.mpr ⟨⟨op, _, _, _, _, _, _, t1, t2, t3⟩, (readStep_iff l _).mpr (.inr ⟨hne, hop, hflags, rfl, rfl, rfl, rfl, rfl,
        rfl, hrange, h1, h2, h3⟩)⟩

/-- The operands of an op, by its code (R39). -/
theorem operandsInRange_iff_code {op : StepOp} {n : Nat} (h : n = op.code) (a : Int) (b g : Nat) :
    operandsInRange op a b g = true ↔
      (n = 2 → -32768 ≤ a ∧ a ≤ 32767) ∧ (n = 3 → -2000000 ≤ a ∧ a ≤ 2000000) ∧
        (n = 4 → 1 ≤ a ∧ a ≤ 32767 ∧ 1 ≤ b ∧ 1 ≤ g) ∧ (n = 5 → b ≤ 31) ∧ (n = 8 → 0 ≤ a ∧ a ≤ 65535 ∧ b ≤ 1023) ∧
        (n = 10 → b ≤ 63) := by
  subst h
  cases op <;> simp [operandsInRange, StepOp.code, and_assoc]

/-- A terminator slot whose bytes pass, by its kind code (R40). -/
abbrev slotPasses (l : List Byte) (i kind : Nat) : Prop :=
  kind ≤ 8 ∧ u8At l i % 16 ≤ 4 ∧ u16At l (i + 1) ≤ 1023 ∧ (kind = 0 → u32At l (i + 3) = 0) ∧
    (kind ∈ [1, 2, 8] → u32At l (i + 3) ≤ 65535) ∧ (kind = 3 → u32At l (i + 3) ≤ 32768) ∧
    (kind = 7 → -32767 ≤ s32At l (i + 3) ∧ s32At l (i + 3) ≤ 32767)

theorem slots_pass_iff (l : List Byte) :
    ((readTerminator l 11).isSome = true ∧ (readTerminator l 18).isSome = true ∧ (readTerminator l 25).isSome = true) ↔
      ∀ i kind : Nat, i ∈ [11, 18, 25] → kind = u8At l i / 16 → slotPasses l i kind := by
  simp only [readTerminator_isSome_iff]
  constructor
  · rintro ⟨h1, h2, h3⟩ i kind hi rfl
    simp only [List.mem_cons, List.not_mem_nil, or_false] at hi
    obtain rfl | rfl | rfl := hi <;> assumption
  · intro h
    exact ⟨h 11 _ (by simp) rfl, h 18 _ (by simp) rfl, h 25 _ (by simp) rfl⟩

theorem readStep_isSome_iff (l : List Byte) (op b : Nat) (a : Int) (hop : op = u8At l 0) (ha : a = s32At l 2)
    (hb : b = u16At l 6) :
    (readStep l).isSome = true ↔ op = 0 ∨
      (op ∈ [1, 2, 3, 4, 5, 8, 9, 10, 11, 12] ∧ u8At l 1 ≤ 3 ∧ (op = 2 → -32768 ≤ a ∧ a ≤ 32767) ∧
        (op = 3 → -2000000 ≤ a ∧ a ≤ 2000000) ∧ (op = 4 → 1 ≤ a ∧ a ≤ 32767 ∧ 1 ≤ b ∧ 1 ≤ u8At l 8) ∧
        (op = 5 → b ≤ 31) ∧ (op = 8 → 0 ≤ a ∧ a ≤ 65535 ∧ b ≤ 1023) ∧ (op = 10 → b ≤ 63) ∧
        ∀ i kind : Nat, i ∈ [11, 18, 25] → kind = u8At l i / 16 → slotPasses l i kind) := by
  have hdefined := stepOp_isSome_iff (u8At l 0)
  cases hcode : StepOp.ofCode (u8At l 0) with
  | none =>
    have hnone : readStep l = none := by simp [readStep, hcode]
    simp_all
  | some k =>
    have hk := (stepOp_ofCode_iff _ k).mp hcode
    by_cases hinv : k = .invalid
    · subst hinv
      have hreset : readStep l = some StepRecord.reset := by simp [readStep, hcode]
      simp [hreset, hop, hk, StepOp.code]
    · have hne : op ≠ 0 := by
        rw [hop, hk]
        cases k <;> simp_all [StepOp.code]
      have hmem : op ∈ [1, 2, 3, 4, 5, 8, 9, 10, 11, 12] := by
        rw [hcode, ← hop] at hdefined
        simpa [hne] using hdefined
      rw [readStep_isSome_of_code hcode hinv, operandsInRange_iff_code (hop.trans hk), slots_pass_iff, ← ha, ← hb]
      simp only [hne, hmem, false_or, true_and, and_assoc]

theorem readProgram_isSome_iff (l : List Byte) :
    (readProgram l).isSome = true ↔ u8At l 0 = 0 ∨
      (u8At l 0 = 1 ∧ u8At l 1 ≤ 3 ∧ u16At l 2 ≤ 1023 ∧ 1 ≤ u16At l 4 ∧ u16At l 4 ≤ 1024 ∧
        u16At l 2 + u16At l 4 ≤ 1024 ∧ u16At l 6 ≤ 32767 ∧ u16At l 8 ≤ 32767) := by
  constructor
  · intro h
    obtain ⟨d, hd⟩ := Option.isSome_iff_exists.mp h
    obtain ⟨h0, -⟩ | ⟨-, h1, hflags, hbase, hlimit, hchg, hdis, -, -, hrange⟩ := (readProgram_iff l d).mp hd
    · exact .inl h0
    · rw [hbase, hlimit, hchg, hdis]
      exact .inr ⟨h1, hflags, hrange⟩
  · rintro (h0 | ⟨h1, hflags, hrange⟩) <;> rw [isSome_iff_exists_eq]
    · exact ⟨_, (readProgram_iff l _).mpr (.inl ⟨h0, rfl⟩)⟩
    · exact ⟨⟨true, _, _, _, _, _, _⟩,
        (readProgram_iff l _).mpr (.inr ⟨rfl, h1, hflags, rfl, rfl, rfl, rfl, rfl, rfl, hrange⟩)⟩

theorem readSegment_isSome_iff (l : List Byte) : (readSegment l).isSome = true ↔ 1 ≤ u16At l 2 := by
  unfold readSegment
  split <;> simp_all

theorem readProfile_isSome_iff (l : List Byte) :
    (readProfile l).isSome = true ↔ u8At l 0 = 0 ∨
      (u8At l 0 = 1 ∧ u8At l 1 ≤ 1 ∧ u16At l 2 ≤ 2047 ∧ 1 ≤ u16At l 4 ∧ u16At l 4 ≤ 2048 ∧
        u16At l 2 + u16At l 4 ≤ 2048) := by
  rw [← repeat_isSome_iff]
  constructor
  · intro h
    obtain ⟨d, hd⟩ := Option.isSome_iff_exists.mp h
    obtain ⟨h0, -⟩ | ⟨-, h1, hrep, hfirst, hcount, hrange⟩ := (readProfile_iff l d).mp hd
    · exact .inl h0
    · rw [(repeat_ofCode_iff _ _).mpr hrep, hfirst, hcount]
      exact .inr ⟨h1, rfl, hrange⟩
  · rintro (h0 | ⟨h1, hrep, hrange⟩)
    · exact Option.isSome_iff_exists.mpr ⟨_, (readProfile_iff l _).mpr (.inl ⟨h0, rfl⟩)⟩
    · obtain ⟨rep, hrep⟩ := Option.isSome_iff_exists.mp hrep
      exact Option.isSome_iff_exists.mpr ⟨⟨true, _, _, rep⟩,
        (readProfile_iff l _).mpr (.inr ⟨rfl, h1, (repeat_ofCode_iff _ _).mp hrep, rfl, rfl, hrange⟩)⟩

theorem readLimit_isSome_iff (l : List Byte) :
    (readLimit l).isSome = true ↔ u8At l 0 = 0 ∨
      (u8At l 0 = 1 ∧ u8At l 1 ≤ 1 ∧ u16At l 6 ≤ 32768 ∧ -32767 ≤ s16At l 8 ∧ -32767 ≤ s16At l 10 ∧ -32767 ≤ s16At l 16 ∧
        u16At l 2 < u16At l 4 ∧ u16At l 12 < u16At l 14 ∧ u16At l 2 ≤ u16At l 12 ∧ u16At l 14 ≤ u16At l 4 ∧
        s16At l 8 < s16At l 10 ∧ s16At l 8 < s16At l 16 ∧ s16At l 16 ≤ s16At l 10) := by
  rw [← readBool_isSome_iff]
  constructor
  · intro h
    obtain ⟨x, hx⟩ := Option.isSome_iff_exists.mp h
    obtain ⟨h0, -⟩ | ⟨-, h1, hreq, h2, h4, h6, h8, h10, h12, h14, h16, -, horder⟩ := (readLimit_iff l x).mp hx
    · exact .inl h0
    · rw [(readBool_iff _ _).mpr hreq, h2, h4, h6, h8, h10, h12, h14, h16]
      exact .inr ⟨h1, rfl, horder⟩
  · rintro (h0 | ⟨h1, hreq, horder⟩)
    · exact Option.isSome_iff_exists.mpr ⟨_, (readLimit_iff l _).mpr (.inl ⟨h0, rfl⟩)⟩
    · obtain ⟨req, hreq⟩ := Option.isSome_iff_exists.mp hreq
      exact Option.isSome_iff_exists.mpr ⟨⟨true, req, _, _, _, _, _, _, _, _, _⟩,
        (readLimit_iff l _).mpr (.inr ⟨rfl, h1, (readBool_iff _ _).mp hreq, rfl, rfl, rfl, rfl, rfl, rfl, rfl, rfl, rfl,
          horder⟩)⟩

theorem readAccept_isSome_iff (l : List Byte) :
    (readAccept l).isSome = true ↔ u8At l 0 % 16 ≤ 1 ∧ u8At l 0 / 16 ≤ 2 ∧ u8At l 3 ≤ 31 := by
  rw [← readBool_isSome_iff, ← role_isSome_iff]
  constructor
  · intro h
    obtain ⟨e, he⟩ := Option.isSome_iff_exists.mp h
    obtain ⟨hen, hrole, -, -, hchan⟩ := (readAccept_iff l e).mp he
    rw [(readBool_iff _ _).mpr hen, (role_ofCode_iff _ _).mpr hrole, hchan]
    exact ⟨rfl, rfl, Nat.le_of_lt_succ e.channel.isLt⟩
  · rintro ⟨hen, hrole, hchan⟩
    obtain ⟨en, hen⟩ := Option.isSome_iff_exists.mp hen
    obtain ⟨role, hrole⟩ := Option.isSome_iff_exists.mp hrole
    exact Option.isSome_iff_exists.mpr ⟨⟨en, _, _, ⟨_, Nat.lt_succ_of_le hchan⟩, role⟩, (readAccept_iff l _).mpr ⟨(readBool_iff _ _).mp hen, (role_ofCode_iff _ _).mp hrole, rfl, rfl, rfl⟩⟩

theorem readConfig_isSome_iff (l : List Byte) :
    (readConfig l).isSome = true ↔ u8At l 0 = 0 ∨
      (u8At l 0 = 1 ∧ u8At l 1 ≤ 63 ∧ 1 ≤ u16At l 2 ∧ u16At l 2 ≤ 10000 ∧ 1 ≤ u8At l 4 ∧ u8At l 4 ≤ 16 ∧ 2 ≤ u8At l 5 ∧
        u8At l 5 ≤ 64 ∧ u8At l 6 ≤ 15 ∧ u8At l 7 ≤ 3 ∧ u8At l 8 ≤ 1 ∧ u8At l 9 ≤ 1 ∧ u8At l 10 ≤ 1) := by
  rw [← policy_isSome_iff, ← faultMode_isSome_iff, ← readBool_isSome_iff, ← readBool_isSome_iff]
  constructor
  · intro h
    obtain ⟨k, hk⟩ := Option.isSome_iff_exists.mp h
    obtain ⟨h0, -⟩ | ⟨-, h1, hp, hm, hsh, hre, h1', h2, h4, h5, h6, hstage, hone, hperiod, hgap, hgap', hmult,
      hmult', hset⟩ := (readConfig_iff l k).mp hk
    · exact .inl h0
    · rw [(policy_ofCode_iff _ _).mpr hp, (faultMode_ofCode_iff _ _).mpr hm, (readBool_iff _ _).mpr hsh,
        (readBool_iff _ _).mpr hre, h1', h2, h4, h5, h6]
      exact .inr ⟨h1, hstage, hone, hperiod, hgap, hgap', hmult, hmult', hset, rfl, rfl, rfl, rfl⟩
  · rintro (h0 | ⟨h1, hstage, hone, hperiod, hgap, hgap', hmult, hmult', hset, hp, hm, hsh, hre⟩)
    · exact Option.isSome_iff_exists.mpr ⟨_, (readConfig_iff l _).mpr (.inl ⟨h0, rfl⟩)⟩
    · obtain ⟨p, hp⟩ := Option.isSome_iff_exists.mp hp
      obtain ⟨m, hm⟩ := Option.isSome_iff_exists.mp hm
      obtain ⟨sh, hsh⟩ := Option.isSome_iff_exists.mp hsh
      obtain ⟨re, hre⟩ := Option.isSome_iff_exists.mp hre
      exact Option.isSome_iff_exists.mpr ⟨⟨true, _, _, _, _, _, p, m, sh, re⟩,
        (readConfig_iff l _).mpr (.inr ⟨rfl, h1, (policy_ofCode_iff _ _).mp hp, (faultMode_ofCode_iff _ _).mp hm,
          (readBool_iff _ _).mp hsh, (readBool_iff _ _).mp hre, rfl, rfl, rfl, rfl, rfl, hstage, hone, hperiod, hgap,
          hgap', hmult, hmult', hset⟩)⟩

/-- Settles O15: what each read admits, that it stores what was carried, and how the records of a request are its bytes in
order, each by its own lemma above. -/
theorem writeChecks : Obligations.WriteChecks := by
  refine ⟨⟨fun _ _ => readStep_wf, fun _ _ => readProgram_wf, fun _ _ => readSegment_wf, fun _ _ => readProfile_wf,
    fun _ _ => readLimit_wf, fun _ _ => readConfig_wf, fun l h => ?zero⟩, readStep_isSome_iff, readProgram_isSome_iff,
    readSegment_isSome_iff, readProfile_isSome_iff, ?limit, readAccept_isSome_iff, readConfig_isSome_iff,
    ⟨fun _ _ => stepBytes_of_read, fun _ _ => programBytes_of_read, fun _ _ => segmentBytes_of_read,
      fun _ _ => profileBytes_of_read, fun _ _ => limitBytes_of_read, fun _ _ => acceptBytes_of_read,
      fun _ _ => configBytes_of_read⟩,
    fun α read size n l => ⟨readRecords_none_iff read size n l, fun rs => readRecords_get⟩⟩
  case zero =>
    exact ⟨(readStep_iff l _).mpr (.inl ⟨h, rfl⟩), (readProgram_iff l _).mpr (.inl ⟨h, rfl⟩),
      (readProfile_iff l _).mpr (.inl ⟨h, rfl⟩), (readLimit_iff l _).mpr (.inl ⟨h, rfl⟩),
      (readConfig_iff l _).mpr (.inl ⟨h, rfl⟩)⟩
  case limit =>
    rintro l _ _ _ _ _ _ _ rfl rfl rfl rfl rfl rfl rfl
    exact readLimit_isSome_iff l

end Sys2Proof.Proofs
end

section
/-! The record forms read back (O14): where each field of a record stands in its bytes. A field is found by skipping the fields
before it. -/

namespace Sys2Proof.Proofs

open Sys2Proof Sys2Proof.Machine

/-! ## Skipping the fields before -/

theorem u8At_skip {a b : List Byte} {i : Nat} (h : a.length ≤ i) : u8At (a ++ b) i = u8At b (i - a.length) := by
  obtain ⟨k, rfl⟩ := Nat.exists_eq_add_of_le h
  rw [u8At_append rfl, Nat.add_sub_cancel_left]

theorem u16At_skip {a b : List Byte} {i : Nat} (h : a.length ≤ i) : u16At (a ++ b) i = u16At b (i - a.length) := by
  obtain ⟨k, rfl⟩ := Nat.exists_eq_add_of_le h
  rw [u16At_append rfl, Nat.add_sub_cancel_left]

theorem u32At_skip {a b : List Byte} {i : Nat} (h : a.length ≤ i) : u32At (a ++ b) i = u32At b (i - a.length) := by
  obtain ⟨k, rfl⟩ := Nat.exists_eq_add_of_le h
  rw [u32At_append rfl, Nat.add_sub_cancel_left]

theorem s16At_skip {a b : List Byte} {i : Nat} (h : a.length ≤ i) : s16At (a ++ b) i = s16At b (i - a.length) := by
  obtain ⟨k, rfl⟩ := Nat.exists_eq_add_of_le h
  rw [s16At_append rfl, Nat.add_sub_cancel_left]

theorem s32At_skip {a b : List Byte} {i : Nat} (h : a.length ≤ i) : s32At (a ++ b) i = s32At b (i - a.length) := by
  obtain ⟨k, rfl⟩ := Nat.exists_eq_add_of_le h
  rw [s32At_append rfl, Nat.add_sub_cancel_left]

@[simp] theorem length_boolByte (b : Bool) : (boolByte b).length = 1 := by cases b <;> rfl

@[simp] theorem length_terminatorBytes (t : Terminator) : (terminatorBytes t).length = 7 := by
  simp [terminatorBytes]

theorem u8At_boolByte (b : Bool) (l : List Byte) : u8At (boolByte b ++ l) 0 = b.toNat := by
  cases b <;> rfl

theorem bitsNat_pair_lt (a b : Bool) : bitsNat [a, b] < 4 := by
  cases a <;> cases b <;> decide

/-! ## Step records -/

theorem stepOp_code_lt (op : StepOp) : op.code < 256 := by cases op <;> decide

theorem terminator_code_lt (t : Terminator) : t.kind.code * 16 + t.action.code < 256 := by
  cases t.kind <;> cases t.action <;> decide

theorem termAction_code_lt (a : TermAction) : a.code < 16 := by cases a <;> decide

/-- The threshold's four bytes, read with the sign that its kind gives. -/
theorem thresholdAt_intBytes {k : TermKind} {x : Int} (h : thresholdInRange k x = true) (b : List Byte) :
    thresholdAt k (intBytes 4 x ++ b) 0 = x := by
  unfold thresholdAt
  split
  · next hk =>
    subst hk
    simp only [thresholdInRange, Bool.and_eq_true, decide_eq_true_eq] at h
    exact s32At_intBytes_four (by omega) b
  · next hk =>
    refine u32At_intBytes_four ?_ b
    cases k <;> simp_all [thresholdInRange] <;> omega

/-- The fields of a terminator slot that begins at byte `i`. -/
theorem terminatorBytes_fields {t : Terminator} (h : t.wf) (b : List Byte) :
    u8At (terminatorBytes t ++ b) 0 = 16 * t.kind.code + t.action.code ∧ u16At (terminatorBytes t ++ b) 1 = t.target ∧
      thresholdAt t.kind (terminatorBytes t ++ b) 3 = t.threshold := by
  obtain ⟨htarget, hth⟩ := h
  have hcode := terminator_code_lt t
  refine ⟨?_, ?_, ?_⟩
  · rw [terminatorBytes, List.append_assoc, List.append_assoc, u8At_natBytes_one]
    omega
  · simp only [terminatorBytes, List.append_assoc]
    rw [u16At_skip (by simp), length_natBytes, u16At_natBytes_two]
    omega
  · rw [← thresholdAt_intBytes hth b]
    unfold thresholdAt
    have hassoc : terminatorBytes t ++ b =
        (natBytes 1 (t.kind.code * 16 + t.action.code) ++ natBytes 2 t.target) ++ (intBytes 4 t.threshold ++ b) := by
      simp [terminatorBytes]
    rw [hassoc, s32At_skip (by simp), u32At_skip (by simp)]
    simp

theorem readTerminator_of_fields {l : List Byte} {i : Nat} {t : Terminator} (hwf : t.wf)
    (hcode : u8At l i = 16 * t.kind.code + t.action.code) (htarget : u16At l (i + 1) = t.target)
    (hth : thresholdAt t.kind l (i + 3) = t.threshold) : readTerminator l i = some t := by
  have := termAction_code_lt t.action
  exact (readTerminator_iff l i t).mpr ⟨by omega, by omega, htarget, hth, hwf⟩

theorem stepBytes_fields {r : StepRecord} {p : List Byte} (hp : p = stepBytes r) (h : r.wf) :
    p.length = 32 ∧ u8At p 0 = r.op.code ∧ u8At p 1 = r.report.toNat + 2 * r.cycle.toNat ∧ s32At p 2 = r.a ∧
      u16At p 6 = r.b ∧ u8At p 8 = r.g ∧ u16At p 9 = r.guard ∧
      ∀ (i : Nat) (x : Terminator), (i, x) ∈ [(11, r.slot1), (18, r.slot2), (25, r.slot3)] →
        u8At p i = 16 * x.kind.code + x.action.code ∧ u16At p (i + 1) = x.target ∧
          thresholdAt x.kind p (i + 3) = x.threshold := by
  obtain ⟨-, hamin, hamax, hb, hg, hguard, -, h1, h2, h3⟩ := h
  have hop := stepOp_code_lt r.op
  have hflags := bitsNat_pair_lt r.report r.cycle
  have hassoc : p = natBytes 1 r.op.code ++ (natBytes 1 (bitsNat [r.report, r.cycle]) ++ (intBytes 4 r.a ++
      (natBytes 2 r.b ++ (natBytes 1 r.g ++ (natBytes 2 r.guard ++ (terminatorBytes r.slot1 ++
        (terminatorBytes r.slot2 ++ (terminatorBytes r.slot3 ++ [])))))))) := by
    simp only [hp, stepBytes, List.append_assoc, List.append_nil]
  subst hassoc
  refine ⟨by simp, ?_, ?_, ?_, ?_, ?_, ?_, ?_⟩
  · rw [u8At_natBytes_one, Nat.mod_eq_of_lt hop]
  · rw [u8At_skip (by simp), length_natBytes, u8At_natBytes_one, Nat.mod_eq_of_lt (by omega), bitsNat_pair]
  · simp only [s32At_skip, length_natBytes, Nat.reduceLeDiff, Nat.reduceSub]
    exact s32At_intBytes_four ⟨hamin, hamax⟩ _
  · simp only [u16At_skip, length_natBytes, length_intBytes, Nat.reduceLeDiff, Nat.reduceSub, u16At_natBytes_two]
    omega
  · simp only [u8At_skip, length_natBytes, length_intBytes, Nat.reduceLeDiff, Nat.reduceSub, u8At_natBytes_one]
    omega
  · simp only [u16At_skip, length_natBytes, length_intBytes, Nat.reduceLeDiff, Nat.reduceSub, u16At_natBytes_two]
    omega
  · intro i x hx
    simp only [List.mem_cons, Prod.mk.injEq, List.not_mem_nil, or_false] at hx
    unfold thresholdAt
    obtain ⟨rfl, rfl⟩ | ⟨rfl, rfl⟩ | ⟨rfl, rfl⟩ := hx <;>
      simp only [u8At_skip, u16At_skip, u32At_skip, s32At_skip, length_natBytes, length_intBytes, length_terminatorBytes,
        Nat.reduceLeDiff, Nat.reduceSub, Nat.reduceAdd]
    · exact terminatorBytes_fields h1 _
    · exact terminatorBytes_fields h2 _
    · exact terminatorBytes_fields h3 _

theorem readStep_stepBytes {r : StepRecord} (h : r.wf) : readStep (stepBytes r) = some r := by
  obtain ⟨-, hop, hflags, ha, hb, hg, hguard, hslots⟩ := stepBytes_fields rfl h
  obtain ⟨hinv, -, -, -, -, -, hrange, h1, h2, h3⟩ := h
  rw [readStep_iff]
  by_cases hcase : r.op = .invalid
  · exact .inl ⟨by rw [hop, hcase]; rfl, hinv hcase⟩
  · obtain ⟨hc1, ht1, hx1⟩ := hslots 11 r.slot1 (by simp)
    obtain ⟨hc2, ht2, hx2⟩ := hslots 18 r.slot2 (by simp)
    obtain ⟨hc3, ht3, hx3⟩ := hslots 25 r.slot3 (by simp)
    refine .inr ⟨hcase, hop, ?_, ?_, ?_, ha, hb, hg, hguard, hrange, readTerminator_of_fields h1 hc1 ht1 hx1,
      readTerminator_of_fields h2 hc2 ht2 hx2, readTerminator_of_fields h3 hc3 ht3 hx3⟩ <;> rw [hflags] <;>
      cases r.report <;> cases r.cycle <;> decide

/-! ## The other forms -/

theorem programBytes_fields {d : ProgramDesc} {p : List Byte} (hp : p = programBytes d) (h : d.wf) :
    p.length = 12 ∧ u8At p 0 = d.valid.toNat ∧ u8At p 1 = d.allowCharge.toNat + 2 * d.allowDischarge.toNat ∧
      u16At p 2 = d.base ∧ u16At p 4 = d.limit ∧ u16At p 6 = d.ichgMax ∧ u16At p 8 = d.idisMax ∧ u16At p 10 = 0 := by
  have hrange : d.base ≤ 1023 ∧ d.limit ≤ 1024 ∧ d.ichgMax ≤ 32767 ∧ d.idisMax ≤ 32767 := by
    cases hv : d.valid
    · rw [h.1 hv]; decide
    · have := h.2 hv
      omega
  have hflags := bitsNat_pair_lt d.allowCharge d.allowDischarge
  have hassoc : p = boolByte d.valid ++ (natBytes 1 (bitsNat [d.allowCharge, d.allowDischarge]) ++ (natBytes 2 d.base ++
      (natBytes 2 d.limit ++ (natBytes 2 d.ichgMax ++ (natBytes 2 d.idisMax ++ (natBytes 2 0 ++ [])))))) := by
    simp only [hp, programBytes, List.append_assoc, List.append_nil]
  subst hassoc
  refine ⟨by simp, u8At_boolByte .., ?_, ?_, ?_, ?_, ?_, ?_⟩ <;>
    simp only [u8At_skip, u16At_skip, length_boolByte, length_natBytes, Nat.reduceLeDiff, Nat.reduceSub, u8At_natBytes_one,
      u16At_natBytes_two, ← bitsNat_pair] <;> omega

theorem readProgram_programBytes {d : ProgramDesc} (h : d.wf) : readProgram (programBytes d) = some d := by
  obtain ⟨-, hvalid, hflags, hbase, hlimit, hchg, hdis, -⟩ := programBytes_fields rfl h
  rw [readProgram_iff]
  cases hv : d.valid
  · exact .inl ⟨by rw [hvalid, hv]; rfl, h.1 hv⟩
  · refine .inr ⟨rfl, by rw [hvalid, hv]; rfl, ?_, hbase, hlimit, hchg, hdis, ?_, ?_, h.2 hv⟩ <;> rw [hflags] <;>
      cases d.allowCharge <;> cases d.allowDischarge <;> decide

theorem segmentBytes_fields {g : Segment} {p : List Byte} (hp : p = segmentBytes g) (hc : fitsS16 g.current)
    (hh : fitsU16 g.hold) : p.length = 4 ∧ s16At p 0 = g.current ∧ u16At p 2 = g.hold := by
  have hassoc : p = intBytes 2 g.current ++ (natBytes 2 g.hold ++ []) := by
    simp only [hp, segmentBytes, List.append_nil]
  subst hassoc
  refine ⟨by simp, s16At_intBytes_two hc _, ?_⟩
  simp only [u16At_skip, length_intBytes, Nat.reduceLeDiff, Nat.reduceSub, u16At_natBytes_two]
  omega

theorem profileBytes_fields {d : ProfileDesc} {p : List Byte} (hp : p = profileBytes d) (h : d.wf) :
    p.length = 6 ∧ u8At p 0 = d.valid.toNat ∧ u8At p 1 = d.rep.code ∧ u16At p 2 = d.first ∧ u16At p 4 = d.count := by
  have hrange : d.first ≤ 2047 ∧ d.count ≤ 2048 := by
    cases hv : d.valid
    · rw [h.1 hv]; decide
    · have := h.2 hv
      omega
  have hrep : d.rep.code < 2 := by cases d.rep <;> decide
  have hassoc : p = boolByte d.valid ++ (natBytes 1 d.rep.code ++ (natBytes 2 d.first ++ (natBytes 2 d.count ++ []))) := by
    simp only [hp, profileBytes, List.append_assoc, List.append_nil]
  subst hassoc
  refine ⟨by simp, u8At_boolByte .., ?_, ?_, ?_⟩ <;>
    simp only [u8At_skip, u16At_skip, length_boolByte, length_natBytes, Nat.reduceLeDiff, Nat.reduceSub, u8At_natBytes_one,
      u16At_natBytes_two] <;> omega

theorem readProfile_profileBytes {d : ProfileDesc} (h : d.wf) : readProfile (profileBytes d) = some d := by
  obtain ⟨-, hvalid, hrep, hfirst, hcount⟩ := profileBytes_fields rfl h
  rw [readProfile_iff]
  cases hv : d.valid
  · exact .inl ⟨by rw [hvalid, hv]; rfl, h.1 hv⟩
  · exact .inr ⟨rfl, by rw [hvalid, hv]; rfl, hrep, hfirst, hcount, h.2 hv⟩

theorem limitBytes_fields {x : LimitSet} {p : List Byte} (hp : p = limitBytes x) (h : x.wf) :
    p.length = 24 ∧ u8At p 0 = x.valid.toNat ∧ u8At p 1 = x.tRequired.toNat ∧ u16At p 2 = x.vHardMin ∧
      u16At p 4 = x.vHardMax ∧ u16At p 6 = x.iHardMax ∧ s16At p 8 = x.tHardMin ∧ s16At p 10 = x.tHardMax ∧
      u16At p 12 = x.vSoftMin ∧ u16At p 14 = x.vSoftMax ∧ s16At p 16 = x.tSoftMax ∧ u16At p 18 = x.tolerance ∧
      u32At p 20 = 0 := by
  have hrange : (x.vHardMin ≤ 65535 ∧ x.vHardMax ≤ 65535 ∧ x.iHardMax ≤ 65535 ∧ x.vSoftMin ≤ 65535 ∧ x.vSoftMax ≤ 65535 ∧
      x.tolerance ≤ 65535) ∧ fitsS16 x.tHardMin ∧ fitsS16 x.tHardMax ∧ fitsS16 x.tSoftMax := by
    cases hv : x.valid
    · rw [h.1 hv]; decide
    · have := h.2 hv
      omega
  obtain ⟨hnat, htmin, htmax, hts⟩ := hrange
  have hassoc : p = boolByte x.valid ++ (boolByte x.tRequired ++ (natBytes 2 x.vHardMin ++ (natBytes 2 x.vHardMax ++
      (natBytes 2 x.iHardMax ++ (intBytes 2 x.tHardMin ++ (intBytes 2 x.tHardMax ++ (natBytes 2 x.vSoftMin ++
        (natBytes 2 x.vSoftMax ++ (intBytes 2 x.tSoftMax ++ (natBytes 2 x.tolerance ++ (natBytes 4 0 ++ []))))))))))) := by
    simp only [hp, limitBytes, List.append_assoc, List.append_nil]
  subst hassoc
  refine ⟨by simp, u8At_boolByte .., ?_, ?_, ?_, ?_, ?_, ?_, ?_, ?_, ?_, ?_, ?_⟩ <;>
    simp only [u8At_skip, u16At_skip, s16At_skip, u32At_skip, length_boolByte, length_natBytes, length_intBytes,
      Nat.reduceLeDiff, Nat.reduceSub, u8At_boolByte, u16At_natBytes_two, u32At_natBytes_four, s16At_intBytes_two htmin,
      s16At_intBytes_two htmax, s16At_intBytes_two hts] <;> omega

theorem readLimit_limitBytes {x : LimitSet} (h : x.wf) : readLimit (limitBytes x) = some x := by
  obtain ⟨-, hvalid, hreq, h2, h4, h6, h8, h10, h12, h14, h16, h18, -⟩ := limitBytes_fields rfl h
  rw [readLimit_iff]
  cases hv : x.valid
  · exact .inl ⟨by rw [hvalid, hv]; rfl, h.1 hv⟩
  · obtain ⟨-, hi, htmin, -, -, horder⟩ := h.2 hv
    exact .inr ⟨rfl, by rw [hvalid, hv]; rfl, hreq, h2, h4, h6, h8, h10, h12, h14, h16, h18, hi, htmin, by omega, by omega,
      horder⟩

theorem acceptBytes_fields {e : AcceptEntry} {p : List Byte} (hp : p = acceptBytes e) :
    p.length = 4 ∧ u8At p 0 = 16 * e.role.code + e.enable.toNat ∧ u8At p 1 = e.tag.toNat ∧ u8At p 2 = e.mask.toNat ∧
      u8At p 3 = e.channel.val := by
  have hassoc : p = natBytes 1 (e.role.code * 16 + e.enable.toNat) ++ (e.tag :: e.mask :: (natBytes 1 e.channel.val ++ [])) := by
    simp only [hp, acceptBytes, List.append_assoc, List.append_nil, List.cons_append, List.nil_append]
  have hcode : e.role.code * 16 + e.enable.toNat < 256 := by
    cases e.role <;> cases e.enable <;> decide
  have hchan := e.channel.isLt
  subst hassoc
  refine ⟨by simp, ?_, ?_, ?_, ?_⟩
  · rw [u8At_natBytes_one]
    omega
  · rw [u8At_skip (by simp), length_natBytes]
    rfl
  · rw [u8At_skip (by simp), length_natBytes]
    rfl
  · rw [u8At_skip (by simp), length_natBytes]
    show u8At (natBytes 1 e.channel.val ++ []) 0 = e.channel.val
    rw [u8At_natBytes_one]
    omega

theorem readAccept_acceptBytes (e : AcceptEntry) : readAccept (acceptBytes e) = some e := by
  obtain ⟨-, h0, h1, h2, h3⟩ := acceptBytes_fields (e := e) rfl
  have hen : e.enable.toNat < 16 := by cases e.enable <;> decide
  exact (readAccept_iff _ e).mpr ⟨by omega, by omega, BitVec.eq_of_toNat_eq h1, BitVec.eq_of_toNat_eq h2, h3⟩

theorem configBytes_fields {k : ConfigRec} {p : List Byte} (hp : p = configBytes k) (h : k.wf) :
    p.length = 16 ∧ u8At p 0 = k.configured.toNat ∧ u8At p 1 = k.stage ∧ u16At p 2 = k.period ∧ u8At p 4 = k.gapLimit ∧
      u8At p 5 = k.silenceMult ∧ u8At p 6 = k.limitSet ∧ u8At p 7 = k.policy.code ∧ u8At p 8 = k.mode.code ∧
      u8At p 9 = k.shadow.toNat ∧ u8At p 10 = k.stateReport.toNat := by
  have hrange : k.stage ≤ 63 ∧ k.period ≤ 10000 ∧ k.gapLimit ≤ 16 ∧ k.silenceMult ≤ 64 ∧ k.limitSet ≤ 15 := by
    cases hv : k.configured
    · rw [h.1 hv]; decide
    · have := h.2 hv
      omega
  have hpolicy : k.policy.code < 4 := by cases k.policy <;> decide
  have hmode : k.mode.code < 2 := by cases k.mode <;> decide
  have hassoc : p = boolByte k.configured ++ (natBytes 1 k.stage ++ (natBytes 2 k.period ++ (natBytes 1 k.gapLimit ++
      (natBytes 1 k.silenceMult ++ (natBytes 1 k.limitSet ++ (natBytes 1 k.policy.code ++ (natBytes 1 k.mode.code ++
        (boolByte k.shadow ++ (boolByte k.stateReport ++ natBytes 5 0))))))))) := by
    simp only [hp, configBytes, List.append_assoc]
  subst hassoc
  refine ⟨by simp, u8At_boolByte .., ?_, ?_, ?_, ?_, ?_, ?_, ?_, ?_, ?_⟩ <;>
    simp only [u8At_skip, u16At_skip, length_boolByte, length_natBytes, Nat.reduceLeDiff, Nat.reduceSub, u8At_boolByte,
      u8At_natBytes_one, u16At_natBytes_two] <;> omega

theorem readConfig_configBytes {k : ConfigRec} (h : k.wf) : readConfig (configBytes k) = some k := by
  obtain ⟨-, h0, h1, h2, h4, h5, h6, h7, h8, h9, h10⟩ := configBytes_fields rfl h
  rw [readConfig_iff]
  cases hv : k.configured
  · exact .inl ⟨by rw [h0, hv]; rfl, h.1 hv⟩
  · exact .inr ⟨rfl, by rw [h0, hv]; rfl, h7, h8, h9, h10, h1, h2, h4, h5, h6, h.2 hv⟩

/-- The five bytes sent as 0 at the end of a configuration record. -/
theorem configBytes_drop (k : ConfigRec) : (configBytes k).drop 11 = List.replicate 5 0 := by
  have hassoc : configBytes k = (boolByte k.configured ++ natBytes 1 k.stage ++ natBytes 2 k.period ++
      natBytes 1 k.gapLimit ++ natBytes 1 k.silenceMult ++ natBytes 1 k.limitSet ++ natBytes 1 k.policy.code ++
      natBytes 1 k.mode.code ++ boolByte k.shadow ++ boolByte k.stateReport) ++ natBytes 5 0 := rfl
  rw [hassoc, List.drop_left' (by simp)]
  rfl

/-- Settles O14: the codes are tables, and of every form the fields and the record read back by its own lemmas above. -/
theorem recordsReadBack : Obligations.RecordsReadBack := by
  refine ⟨⟨rfl, rfl, rfl, rfl, rfl, rfl, rfl⟩, ?step, ?program, ?segment, ?profile, ?limit, ?accept, ?config⟩
  case step =>
    rintro r _ rfl h
    exact ⟨readStep_stepBytes h, stepBytes_fields rfl h⟩
  case program =>
    rintro d _ rfl h
    exact ⟨readProgram_programBytes h, programBytes_fields rfl h⟩
  case segment =>
    rintro g _ rfl hc hh
    obtain ⟨hlen, hcur, hhold⟩ := segmentBytes_fields rfl hc hh
    exact ⟨fun h => (readSegment_iff _ g).mpr ⟨h.1, hhold, hcur⟩, hlen, hcur, hhold⟩
  case profile =>
    rintro d _ rfl h
    exact ⟨readProfile_profileBytes h, profileBytes_fields rfl h⟩
  case limit =>
    rintro x _ rfl h
    exact ⟨readLimit_limitBytes h, limitBytes_fields rfl h⟩
  case accept =>
    rintro e _ rfl
    exact ⟨readAccept_acceptBytes e, acceptBytes_fields rfl⟩
  case config =>
    rintro k _ rfl h
    obtain ⟨hlen, h0, h1, h2, h4, h5, h6, h7, h8, h9, h10⟩ := configBytes_fields rfl h
    exact ⟨readConfig_configBytes h, hlen, h0, h1, h2, h4, h5, h6, h7, h8, h9, h10, configBytes_drop k⟩

end Sys2Proof.Proofs
end

section
/-! What every step keeps. The seven invariants of StepKeeps... are carried together along an event as one preorder `Keeps`; the
four of them that presuppose consistent flights are claimed only under a premise `F`, which in the end is that the flights are
consistent where the event begins. -/

namespace Sys2Proof.Proofs

open Sys2Proof Sys2Proof.Machine

/-! ## The invariants as predicates of one state -/

/-- The premise and the conclusion of StepKeepsQueues. -/
abbrev booksOk (s : State) : Prop := s.queuesBounded ∧ s.relayWaitOk ∧ s.managementOk

/-- The premise and the conclusion of StepKeepsTables. -/
abbrev tablesOk (s : State) : Prop := s.tablesWf ∧ s.recordsOk ∧ s.jobOk ∧ s.primariesOk

/-- What StepKeepsAccounts says of one channel. -/
abbrev accountsOk (ch : Channel) : Prop := ch.acct.inRange ∧ ch.trackingOk ∧ ch.countersOk

/-- What `State.flightsOk` says of one channel. -/
abbrev flightOk (ch : Channel) : Prop := ch.flightOk ∧ ch.stepOk ∧ ch.stackOk ∧ ch.resumeOk

/-- What `State.quietSlots` says of one channel. -/
abbrev quietOk (shadow : Bool) (ch : Channel) : Prop :=
  (ch.state ≠ .running ∨ ch.seq.inFlight = true ∨ shadow = true) → ch.sp.lastWord ≠ some .run

/-- Every invariant that holds in `s` holds in `t`; those that presuppose consistent flights only under the premise `F`. And the
waiting commands stay (notes/assumptions/2.md). -/
structure Keeps (F : Prop) (s t : State) : Prop where
  pending : t.pending = s.pending
  books : booksOk s → booksOk t
  tables : tablesOk s → tablesOk t
  accounts : (∀ c, accountsOk (s.chan c)) → ∀ c, accountsOk (t.chan c)
  flights : F → s.flightsOk → t.flightsOk
  slots : F → s.flightsOk → s.quietSlots ∧ s.sinceOk → t.quietSlots ∧ t.sinceOk
  supervision : F → s.flightsOk → (∀ c, (s.chan c).supervisionOk) → ∀ c, (t.chan c).supervisionOk
  configuration : F → s.flightsOk → s.configured ∧ s.initOk → t.configured ∧ t.initOk

theorem Keeps.refl (F : Prop) (s : State) : Keeps F s s :=
  ⟨rfl, id, id, id, fun _ => id, fun _ _ => id, fun _ _ => id, fun _ _ => id⟩

theorem Keeps.trans {F : Prop} {s t u : State} (h : Keeps F s t) (k : Keeps F t u) : Keeps F s u where
  pending := k.pending.trans h.pending
  books := k.books ∘ h.books
  tables := k.tables ∘ h.tables
  accounts := k.accounts ∘ h.accounts
  flights hF := k.flights hF ∘ h.flights hF
  slots hF hs := k.slots hF (h.flights hF hs) ∘ h.slots hF hs
  supervision hF hs := k.supervision hF (h.flights hF hs) ∘ h.supervision hF hs
  configuration hF hs := k.configuration hF (h.flights hF hs) ∘ h.configuration hF hs

/-- A premise that the flights of the first state give is no premise. -/
theorem Keeps.of_flights {F : Prop} {s t : State} (h : Keeps s.flightsOk s t) : Keeps F s t where
  pending := h.pending
  books := h.books
  tables := h.tables
  accounts := h.accounts
  flights _ hs := h.flights hs hs
  slots _ hs := h.slots hs hs
  supervision _ hs := h.supervision hs hs
  configuration _ hs := h.configuration hs hs

/-- Folding an operation that keeps the invariants over a list of channels keeps them. -/
theorem Keeps.foldl {F : Prop} {f : State → ChanId → State} (h : ∀ s c, Keeps F s (f s c)) (l : List ChanId) (s : State) :
    Keeps F s (l.foldl f s) := by
  induction l generalizing s with
  | nil => exact .refl F s
  | cons c l ih => exact (h s c).trans (ih (f s c))

/-! ## A move of one channel -/

/-- Channel `c` of `s` may become `ch` at an event that offers its slot `n` frames and produces the records `l`: what the
invariants of a single channel ask of it. -/
structure MoveOk (F : Prop) (s : State) (c : ChanId) (ch : Channel) (n : Nat) (l : List Body) : Prop where
  accounts : accountsOk (s.chan c) → accountsOk ch
  flight : F → flightOk (s.chan c) → flightOk ch
  supervision : F → flightOk (s.chan c) → (s.chan c).supervisionOk → ch.supervisionOk
  quiet : F → flightOk (s.chan c) → quietOk (s.cfg c).shadow (s.chan c) → quietOk (s.cfg c).shadow ch
  since : ch.sp.pending.isSome = true →
    ((s.chan c).sp.pending.isSome = true ∧ ch.sp.since = (s.chan c).sp.since) ∨
      ((s.cfg c).shadow = false ∧ ∃ m, m < n ∧ ch.sp.since = some (s.nextSince + m))
  enters : F → flightOk (s.chan c) → ch.state ≠ .off →
    (s.chan c).state ≠ .off ∨ (s.engine ≠ .init ∧ (s.cfg c).configured = true ∧ (s.limits c).valid = true)
  silent : F → flightOk (s.chan c) → s.engine = .init → (s.chan c).state = .off → l = []

/-! ## Records offered to the report queue -/

/-- The reserve of the report queue (R177). -/
theorem reportAccepts_iff (b : Body) (n : Nat) :
    reportAccepts b n = true ↔ n < if b.isData then 120 else 128 := decide_eq_true_iff

theorem produce_reports_length {s : State} {c : ChanId} {b : Body} (h : s.reports.length ≤ 128) :
    (s.produce c b).reports.length ≤ 128 := by
  dsimp only [State.produce]
  split
  · next hacc =>
    rw [reportAccepts_iff] at hacc
    rw [List.length_append, List.length_singleton]
    split at hacc <;> omega
  · exact h

theorem dataRecords_le_length (l : List Record) : dataRecords l ≤ l.length := List.length_filter_le ..

theorem dataRecords_append_singleton (l : List Record) (r : Record) :
    dataRecords (l ++ [r]) = dataRecords l + r.body.isData.toNat := by
  unfold dataRecords
  rw [List.filter_append, List.length_append]
  cases h : r.body.isData <;> simp [h]

/-- A measurement record is accepted only below 120 records of any kind. -/
theorem produce_dataRecords {s : State} {c : ChanId} {b : Body} (h : dataRecords s.reports ≤ 120) :
    dataRecords (s.produce c b).reports ≤ 120 := by
  dsimp only [State.produce]
  split
  · next hacc =>
    rw [reportAccepts_iff] at hacc
    rw [dataRecords_append_singleton]
    cases hb : b.isData
    · simpa [hb] using h
    · rw [hb, if_pos rfl] at hacc
      have := dataRecords_le_length s.reports
      simp only [Bool.toNat_true]
      omega
  · exact h

theorem bump_le (n : Nat) : bump n ≤ 65535 := Nat.min_le_left ..

theorem one_le_bump (n : Nat) : 1 ≤ bump n := by
  unfold bump satAdd Config.counterMax
  omega

theorem produce_dropCount (s : State) (c : ChanId) (b : Body) : (s.produce c b).dropCount ≤ 65535 := by
  dsimp only [State.produce]
  split
  · omega
  · exact bump_le _

theorem produceAll_bounded {s : State} (c : ChanId) (l : List Body)
    (h : s.reports.length ≤ 128 ∧ dataRecords s.reports ≤ 120 ∧ s.dropCount ≤ 65535) :
    (s.produceAll c l).reports.length ≤ 128 ∧ dataRecords (s.produceAll c l).reports ≤ 120 ∧
      (s.produceAll c l).dropCount ≤ 65535 := by
  induction l generalizing s with
  | nil => exact h
  | cons b l ih =>
    obtain ⟨hlen, hdata, -⟩ := h
    exact ih ⟨produce_reports_length hlen, produce_dataRecords hdata, produce_dropCount s c b⟩

/-! ## What a move does to each invariant -/

section
variable {F : Prop} {s : State} {c : ChanId} {ch : Channel} {n : Nat} {l : List Body}

theorem after_pending (s : State) (c : ChanId) (ch : Channel) (n : Nat) (l : List Body) :
    (s.after c ch n l).pending = s.pending := by rw [State.after_eq]

theorem after_channels (s : State) (c : ChanId) (ch : Channel) (n : Nat) (l : List Body) (x : ChanId) :
    (s.after c ch n l).chan x = if x = c then ch else s.chan x := by
  split
  · next h => rw [h, State.after_chan_self]
  · next h => exact State.after_chan _ _ _ _ _ _ h

/-- The state after a move of one channel, with the step fetch queue and the port that the event leaves. -/
abbrev moved (s : State) (c : ChanId) (ch : Channel) (n : Nat) (l : List Body) (q : List ChanId) (p : PortState) : State :=
  { s.after c ch n l with fetchQueue := q, port := p }

variable {q : List ChanId} {p : PortState}

theorem moved_chan (s : State) (c : ChanId) (ch : Channel) (n : Nat) (l : List Body) (q : List ChanId) (p : PortState)
    (x : ChanId) : (moved s c ch n l q p).chan x = if x = c then ch else s.chan x := after_channels s c ch n l x

theorem moved_chan_self (s : State) (c : ChanId) (ch : Channel) (n : Nat) (l : List Body) (q : List ChanId) (p : PortState) :
    (moved s c ch n l q p).chan c = ch := State.after_chan_self s c ch n l

theorem moved_cfg (s : State) (c : ChanId) (ch : Channel) (n : Nat) (l : List Body) (q : List ChanId) (p : PortState) (x : ChanId) :
    (moved s c ch n l q p).cfg x = s.cfg x := State.after_cfg s c x ch n l

theorem moved_limits (s : State) (c : ChanId) (ch : Channel) (n : Nat) (l : List Body) (q : List ChanId) (p : PortState) (x : ChanId) :
    (moved s c ch n l q p).limits x = s.limits x := State.after_limits s c x ch n l

theorem moved_nextSince (s : State) (c : ChanId) (ch : Channel) (n : Nat) (l : List Body) (q : List ChanId) (p : PortState) :
    (moved s c ch n l q p).nextSince = if (s.cfg c).shadow then s.nextSince else s.nextSince + n :=
  State.after_nextSince s c ch n l

/-- A property of every channel survives a move when the moved channel has it. -/
theorem moved_forall {P : ChanId → Channel → Prop} (h : ∀ x, P x (s.chan x)) (hc : P c ch) (x : ChanId) :
    P x ((moved s c ch n l q p).chan x) := by
  rw [moved_chan]
  split
  · next hx => exact hx ▸ hc
  · exact h x

theorem moved_booksOk (hp : p = .access → s.port = .access) (h : booksOk s) : booksOk (moved s c ch n l q p) := by
  obtain ⟨⟨hdown, hup, hreq, hans, hreports⟩, hwait, hjob, hreset, hport, hmark, htx⟩ := h
  have hbounded := produceAll_bounded c l hreports
  rw [moved, State.after_eq]
  exact ⟨⟨hdown, hup, hreq, hans, hbounded⟩, hwait, hjob, hreset, fun ha => hport (hp ha), hmark, htx⟩

theorem moved_tablesOk (h : tablesOk s) : tablesOk (moved s c ch n l q p) := by
  rw [moved, State.after_eq]
  exact h

theorem moved_slotsOk (hm : MoveOk F s c ch n l) (hF : F) (hs : s.flightsOk) (h : s.quietSlots ∧ s.sinceOk) :
    (moved s c ch n l q p).quietSlots ∧ (moved s c ch n l q p).sinceOk := by
  obtain ⟨hquiet, hsince, hinj⟩ := h
  obtain ⟨-, -, hlocal⟩ := hs
  have hle : s.nextSince ≤ (moved s c ch n l q p).nextSince := by
    rw [moved_nextSince]
    split
    · exact le_rfl
    · exact Nat.le_add_right ..
  have hold {x : ChanId} (hx : (s.chan x).sp.pending.isSome = true) : ∃ m, (s.chan x).sp.since = some m ∧ m < s.nextSince := by
    simpa [Option.any_eq_true] using hsince x hx
  have hnew (hx : ch.sp.pending.isSome = true) :
      ∃ m, ch.sp.since = some m ∧ m < (moved s c ch n l q p).nextSince ∧
        (s.nextSince ≤ m ∨ ((s.chan c).sp.pending.isSome = true ∧ ch.sp.since = (s.chan c).sp.since)) := by
    obtain ⟨hpend, heq⟩ | ⟨hshadow, m, hmn, heq⟩ := hm.since hx
    · obtain ⟨m, hsome, hlt⟩ := hold hpend
      exact ⟨m, heq.trans hsome, by omega, .inr ⟨hpend, heq⟩⟩
    · refine ⟨_, heq, ?_, .inl (by omega)⟩
      rw [moved_nextSince, if_neg (by simp [hshadow])]
      omega
  refine ⟨fun hr x => ?_, fun x => ?_, fun x y => ?_⟩
  · have hr' : s.resetN = true := by rwa [moved, State.after_eq] at hr
    rw [moved_cfg]
    exact moved_forall (P := fun x ch => quietOk (s.cfg x).shadow ch) (hquiet hr') (hm.quiet hF (hlocal c) (hquiet hr' c)) x
  · rw [moved_chan]
    intro hx
    split at hx <;> split
    · obtain ⟨m, heq, hlt, -⟩ := hnew hx
      simpa [heq] using hlt
    · contradiction
    · contradiction
    · obtain ⟨m, heq, hlt⟩ := hold hx
      rw [heq, Option.any_some, decide_eq_true_eq]
      exact hlt.trans_le hle
  · rw [moved_chan, moved_chan]
    split <;> split <;> intro hx hy heq
    · next h1 h2 => exact h1.trans h2.symm
    · next h1 h2 =>
      obtain ⟨m, hsome, -, hge | ⟨hpend, hsame⟩⟩ := hnew hx
      · obtain ⟨k, hk, hlt⟩ := hold hy
        rw [hsome, hk, Option.some.injEq] at heq
        omega
      · exact h1.trans (hinj c y hpend hy (hsame.symm.trans heq))
    · next h1 h2 =>
      obtain ⟨m, hsome, -, hge | ⟨hpend, hsame⟩⟩ := hnew hy
      · obtain ⟨k, hk, hlt⟩ := hold hx
        rw [hsome, hk, Option.some.injEq] at heq
        omega
      · exact (hinj x c hx hpend (heq.trans hsame)).trans h2.symm
    · exact hinj x y hx hy heq

theorem moved_configuration (hm : MoveOk F s c ch n l) (hF : F) (hs : s.flightsOk) (h : s.configured ∧ s.initOk) :
    (moved s c ch n l q p).configured ∧ (moved s c ch n l q p).initOk := by
  obtain ⟨hconf, hclear, hinit⟩ := h
  obtain ⟨-, -, hlocal⟩ := hs
  refine ⟨fun x => ?_, ?_, ?_⟩
  · rw [moved_cfg, moved_limits]
    refine moved_forall (P := fun x ch => ch.state ≠ .off → (s.cfg x).configured = true ∧ (s.limits x).valid = true) hconf
      (fun hon => ?_) x
    obtain hwas | ⟨-, hok⟩ := hm.enters hF (hlocal c) hon
    · exact hconf c hwas
    · exact hok
  · rw [moved, State.after_eq]
    exact hclear
  · intro he
    have he' : s.engine = .init := by rwa [moved, State.after_eq] at he
    obtain ⟨hoff, hrest⟩ := hinit he'
    refine ⟨moved_forall (P := fun _ ch => ch.state = .off) hoff ?_, ?_⟩
    · by_contra hon
      obtain hwas | ⟨hne, -⟩ := hm.enters hF (hlocal c) hon
      · exact hwas (hoff c)
      · exact hne he'
    · rw [moved, State.after_eq, hm.silent hF (hlocal c) he' (hoff c)]
      exact hrest

/-- A move keeps every invariant once it keeps the step fetch queue and the port consistent with the transitions. -/
theorem MoveOk.keeps (hm : MoveOk F s c ch n l) (hp : p = .access → s.port = .access)
    (hfetch : F → s.flightsOk → (moved s c ch n l q p).fetchesOk ∧ (moved s c ch n l q p).portOk) :
    Keeps F s (moved s c ch n l q p) where
  pending := after_pending s c ch n l
  books := moved_booksOk hp
  tables := moved_tablesOk
  accounts h := moved_forall (P := fun _ ch => accountsOk ch) h (hm.accounts (h c))
  flights hF hs := by
    obtain ⟨hf, hport⟩ := hfetch hF hs
    obtain ⟨-, -, hlocal⟩ := hs
    exact ⟨hf, hport, moved_forall (P := fun _ ch => flightOk ch) hlocal (hm.flight hF (hlocal c))⟩
  slots := moved_slotsOk hm
  supervision hF hs h := by
    obtain ⟨-, -, hlocal⟩ := hs
    exact moved_forall (P := fun _ ch => ch.supervisionOk) h (hm.supervision hF (hlocal c) (h c))
  configuration := moved_configuration hm

/-! ## The step fetch queue and the port at a move -/

theorem portOk_iff (s : State) :
    s.portOk ↔ ∀ x i, s.port = .fetch x (.read i) true → (s.chan x).seq.indexInside = true := by
  unfold State.portOk
  constructor
  · intro h x i hp
    simpa only [hp] using h
  · intro h
    split
    · next hp => exact h _ _ hp
    all_goals rfl

/-- The move leaves the fetch queue and the port alone: the channel's transition is in flight as before, and a fetch that reads
a record for it still finds its index inside. -/
theorem MoveOk.keeps_after (hm : MoveOk F s c ch n l)
    (hflight : F → flightOk (s.chan c) → ch.seq.inFlight = (s.chan c).seq.inFlight)
    (hindex : F → flightOk (s.chan c) → ch.seq.inFlight = true → ch.seq.indexInside = (s.chan c).seq.indexInside) :
    Keeps F s (s.after c ch n l) := by
  have hself : s.after c ch n l = moved s c ch n l s.fetchQueue s.port := by rw [moved, State.after_eq]
  rw [hself]
  refine hm.keeps (fun h => h) fun hF hs => ?_
  obtain ⟨⟨hnodup, hmem⟩, hport, hlocal⟩ := hs
  refine ⟨⟨hnodup, fun x => ?_⟩, (portOk_iff _).mpr fun x i hp => ?_⟩ <;> rw [moved_chan] <;> split
  · next hx => rw [hflight hF (hlocal c), ← hx]; exact hmem x
  · exact hmem x
  · next hx =>
    subst hx
    have hin : (s.chan x).seq.inFlight = true := (hmem x).1.mpr (.inr (by simpa [PortState.fetchesFor] using congrArg (·.fetchesFor x) hp))
    rw [hindex hF (hlocal x) ((hflight hF (hlocal x)).trans hin)]
    exact (portOk_iff s).mp hport x i hp
  · exact (portOk_iff s).mp hport x i hp

/-- A transition begins: the channel joins the fetch queue. -/
theorem MoveOk.keeps_begin (hm : MoveOk F s c ch n l) (hidle : F → flightOk (s.chan c) → (s.chan c).seq.inFlight = false)
    (hflight : ch.seq.inFlight = true) :
    Keeps F s { s.after c ch n l with fetchQueue := s.fetchQueue ++ [c] } := by
  have hself : ({ s.after c ch n l with fetchQueue := s.fetchQueue ++ [c] } : State) =
      moved s c ch n l (s.fetchQueue ++ [c]) s.port := by rw [moved, State.after_eq]
  rw [hself]
  refine hm.keeps (fun h => h) fun hF hs => ?_
  obtain ⟨⟨hnodup, hmem⟩, hport, hlocal⟩ := hs
  have hnot : ¬ (c ∈ s.fetchQueue ∨ s.port.fetchesFor c = true) := by
    rw [← (hmem c).1, hidle hF (hlocal c)]
    exact Bool.false_ne_true
  obtain ⟨hq, hfree⟩ := not_or.mp hnot
  refine ⟨⟨?_, fun x => ?_⟩, (portOk_iff _).mpr fun x i hp => ?_⟩
  · rw [← List.concat_eq_append]
    exact hnodup.concat hq
  · rw [moved_chan]
    by_cases hx : x = c
    · rw [if_pos hx, hx]
      simp [hflight, hfree]
    · simpa [hx] using hmem x
  · have hx : x ≠ c := by
      rintro rfl
      exact hfree (by simpa [PortState.fetchesFor] using congrArg (·.fetchesFor x) hp)
    rw [moved_chan, if_neg hx]
    exact (portOk_iff s).mp hport x i hp

theorem abandon_fetchesFor (p : PortState) (c x : ChanId) :
    (p.abandon c).fetchesFor x = (p.fetchesFor x && x != c) := by
  cases p with
  | free | access => rfl
  | fetch d o live =>
    show (live && d != c && d == x) = (live && d == x && x != c)
    by_cases h : d = x
    · simp [h]
    · simp [beq_false_of_ne h]

/-- A fetch that is still live after a channel gave up its own was live before, and another channel's. -/
theorem abandon_eq_live {p : PortState} {c x : ChanId} {o : FetchOutcome} (h : p.abandon c = .fetch x o true) :
    p = .fetch x o true ∧ x ≠ c := by
  cases p with
  | free | access => cases h
  | fetch d o' live =>
    simp only [PortState.abandon, PortState.fetch.injEq, Bool.and_eq_true, bne_iff_ne] at h
    obtain ⟨rfl, rfl, rfl, hne⟩ := h
    exact ⟨rfl, hne⟩

/-- The channel's transition, if any, is given up. -/
theorem MoveOk.keeps_leave (hm : MoveOk F s c ch n l) (hflight : ch.seq.inFlight = false) :
    Keeps F s ((s.after c ch n l).leaveFetch c) := by
  have hself : (s.after c ch n l).leaveFetch c =
      moved s c ch n l (s.fetchQueue.filter (fun d => d != c)) (s.port.abandon c) := by
    rw [moved, State.leaveFetch, State.after_fetchQueue, State.after_port]
  rw [hself]
  refine hm.keeps (fun h => ?_) fun _ hs => ?_
  · cases hp : s.port <;> simp_all [PortState.abandon]
  obtain ⟨⟨hnodup, hmem⟩, hport, -⟩ := hs
  refine ⟨⟨hnodup.filter _, fun x => ?_⟩, (portOk_iff _).mpr fun x i hp => ?_⟩
  · rw [moved_chan, abandon_fetchesFor, List.mem_filter]
    by_cases hx : x = c
    · simp [hx, hflight]
    · simpa [hx] using hmem x
  · obtain ⟨hlive, hx⟩ := abandon_eq_live hp
    rw [moved_chan, if_neg hx]
    exact (portOk_iff s).mp hport x i hlive

/-- A live fetch's transition ends: the port is free, and the channel waits for no other fetch. -/
theorem MoveOk.keeps_fetched (hm : MoveOk F s c ch n l) {o : FetchOutcome} (hport : s.port = .fetch c o true)
    (hflight : ch.seq.inFlight = false) : Keeps F s { s.after c ch n l with port := .free } := by
  have hself : ({ s.after c ch n l with port := .free } : State) = moved s c ch n l s.fetchQueue .free := by
    rw [moved, State.after_eq]
  rw [hself]
  refine hm.keeps (fun h => by cases h) fun _ hs => ?_
  obtain ⟨⟨hnodup, hmem⟩, -, -⟩ := hs
  rw [hport] at hmem
  refine ⟨⟨hnodup, fun x => ?_⟩, (portOk_iff _).mpr fun x i hp => by cases hp⟩
  rw [moved_chan]
  by_cases hx : x = c
  · have := (hmem c).2
    simp_all
  · have := hmem x
    simp_all [Ne.symm hx]

/-- A live fetch's transition goes on: the port is free, and the channel joins the fetch queue again. -/
theorem MoveOk.keeps_refetched (hm : MoveOk F s c ch n l) {o : FetchOutcome} (hport : s.port = .fetch c o true)
    (hflight : F → flightOk (s.chan c) → (s.chan c).seq.inFlight = true → ch.seq.inFlight = true) :
    Keeps F s { s.after c ch n l with port := .free, fetchQueue := s.fetchQueue ++ [c] } := by
  have hself : ({ s.after c ch n l with port := .free, fetchQueue := s.fetchQueue ++ [c] } : State) =
      moved s c ch n l (s.fetchQueue ++ [c]) .free := by
    rw [moved, State.after_eq]
  rw [hself]
  refine hm.keeps (fun h => by cases h) fun hF hs => ?_
  obtain ⟨⟨hnodup, hmem⟩, -, hlocal⟩ := hs
  rw [hport] at hmem
  have hfetched : (PortState.fetch c o true).fetchesFor c = true := by simp
  have hq : c ∉ s.fetchQueue := fun h => (hmem c).2 ⟨h, hfetched⟩
  refine ⟨⟨?_, fun x => ?_⟩, (portOk_iff _).mpr fun x i hp => by cases hp⟩
  · rw [← List.concat_eq_append]
    exact hnodup.concat hq
  · rw [moved_chan]
    by_cases hx : x = c
    · simp [hx, hflight hF (hlocal c) ((hmem c).1.mpr (.inr hfetched))]
    · have := hmem x
      simp_all [Ne.symm hx]

end

end Sys2Proof.Proofs
end

section
/-! The moves of one channel that the units of the engine are made of, each shown to keep every invariant (`MoveOk.keeps_...`). -/

namespace Sys2Proof.Proofs

open Sys2Proof Sys2Proof.Machine

variable {F : Prop} {s : State} {c : ChanId}

/-! ## Updates of one context that leave the flight of the channel alone -/

theorem keeps_modTrack (f : Tracking → Tracking)
    (h : accountsOk (s.chan c) → accountsOk { s.chan c with track := f (s.chan c).track }) :
    Keeps F s (s.modTrack c f) := by
  rw [State.modTrack_eq_after]
  exact MoveOk.keeps_after ⟨h, fun _ h => h, fun _ _ h => h, fun _ _ h => h, fun h => .inl ⟨h, rfl⟩, fun _ _ h => .inl h,
    fun _ _ _ _ => rfl⟩ (fun _ _ => rfl) (fun _ _ _ => rfl)

theorem keeps_modAcct (f : Accounts → Accounts) (h : (s.chan c).acct.inRange → (f (s.chan c).acct).inRange) :
    Keeps F s (s.modAcct c f) := by
  rw [State.modAcct_eq_after]
  exact MoveOk.keeps_after ⟨fun ⟨hr, hrest⟩ => ⟨h hr, hrest⟩, fun _ h => h, fun _ _ h => h, fun _ _ h => h,
    fun h => .inl ⟨h, rfl⟩, fun _ _ h => .inl h, fun _ _ _ _ => rfl⟩ (fun _ _ => rfl) (fun _ _ _ => rfl)

theorem keeps_modSup (f : Supervision → Supervision)
    (h : F → (s.chan c).supervisionOk → ({ s.chan c with sup := f (s.chan c).sup } : Channel).supervisionOk) :
    Keeps F s (s.modSup c f) := by
  rw [State.modSup_eq_after]
  exact MoveOk.keeps_after ⟨fun h => h, fun _ h => h, fun hF _ => h hF, fun _ _ h => h, fun h => .inl ⟨h, rfl⟩,
    fun _ _ h => .inl h, fun _ _ _ _ => rfl⟩ (fun _ _ => rfl) (fun _ _ _ => rfl)

/-- What the invariants ask of an update of the sequencing context while the transition and the index stay. -/
theorem keeps_modSeq (f : Sequencing → Sequencing)
    (hcount : (s.chan c).seq.lostEval ≤ 65535 ∧ (s.chan c).seq.cycleCount ≤ Config.max32 →
      (f (s.chan c).seq).lostEval ≤ 65535 ∧ (f (s.chan c).seq).cycleCount ≤ Config.max32)
    (hflight : F → flightOk (s.chan c) → flightOk { s.chan c with seq := f (s.chan c).seq })
    (hin : (f (s.chan c).seq).inFlight = (s.chan c).seq.inFlight)
    (hindex : F → flightOk (s.chan c) → (f (s.chan c).seq).inFlight = true →
      (f (s.chan c).seq).indexInside = (s.chan c).seq.indexInside) : Keeps F s (s.modSeq c f) := by
  rw [State.modSeq_eq_after]
  refine MoveOk.keeps_after ⟨fun ⟨hr, ht, hc⟩ => ⟨hr, ht, ?_⟩, hflight, fun _ _ h => h, fun _ _ h => ?_,
    fun h => .inl ⟨h, rfl⟩, fun _ _ h => .inl h, fun _ _ _ _ => rfl⟩ (fun _ _ => hin) hindex
  · obtain ⟨h1, h2, h3, h4, h5, hlost, h6, h7, hcycle⟩ := hc
    obtain ⟨hlost', hcycle'⟩ := hcount ⟨hlost, hcycle⟩
    exact ⟨h1, h2, h3, h4, h5, hlost', h6, h7, hcycle'⟩
  · intro hq
    exact h (by simpa only [hin] using hq)

/-- An update of fields of the sequencing context that no invariant of the flight speaks of. -/
theorem keeps_modSeq_of_same (f : Sequencing → Sequencing)
    (hcount : (s.chan c).seq.lostEval ≤ 65535 ∧ (s.chan c).seq.cycleCount ≤ Config.max32 →
      (f (s.chan c).seq).lostEval ≤ 65535 ∧ (f (s.chan c).seq).cycleCount ≤ Config.max32)
    (hsame : f (s.chan c).seq =
      { f (s.chan c).seq with
        inFlight := (s.chan c).seq.inFlight, stepCopy := (s.chan c).seq.stepCopy, holdPending := (s.chan c).seq.holdPending
        pendingEval := (s.chan c).seq.pendingEval, chain := (s.chan c).seq.chain, index := (s.chan c).seq.index
        cache := (s.chan c).seq.cache, stack := (s.chan c).seq.stack, resume := (s.chan c).seq.resume }) :
    Keeps F s (s.modSeq c f) := by
  refine keeps_modSeq f hcount (fun _ h => ?_) ?_ (fun _ _ _ => ?_) <;> rw [hsame]
  exact h

/-- A record of a channel that is not OFF when the engine is in INIT. -/
theorem keeps_produce (b : Body) (hon : F → flightOk (s.chan c) → s.engine = .init → (s.chan c).state ≠ .off) :
    Keeps F s (s.produce c b) := by
  rw [State.produce_eq_after]
  exact MoveOk.keeps_after ⟨fun h => h, fun _ h => h, fun _ _ h => h, fun _ _ h => h, fun h => .inl ⟨h, rfl⟩,
    fun _ _ h => .inl h, fun hF hf he ho => absurd ho (hon hF hf he)⟩ (fun _ _ => rfl) (fun _ _ _ => rfl)

theorem keeps_stepEnd (cause : EndCause) (v : Nat) (i : Int) (t : Option Int) (hon : F → (s.chan c).state ≠ .off) :
    Keeps F s (s.stepEnd c cause v i t) := by
  unfold State.stepEnd
  split
  · exact .refl F s
  · split
    · exact keeps_produce _ fun hF _ _ => hon hF
    · exact .refl F s

/-! ## The setpoint slot -/

/-- `sp` is what an offer of ZERO or OPEN makes of channel `c`'s slot, as far as the invariants see it. -/
structure Offered (s : State) (c : ChanId) (sp : Setpoint) (n : Nat) : Prop where
  since : sp.pending.isSome = true →
    ((s.chan c).sp.pending.isSome = true ∧ sp.since = (s.chan c).sp.since) ∨
      ((s.cfg c).shadow = false ∧ ∃ m, m < n ∧ sp.since = some (s.nextSince + m))
  word : sp.lastWord = some .run → (s.cfg c).shadow = true ∧ (s.chan c).sp.lastWord = some .run
  refresh : sp.refresh = (s.chan c).sp.refresh
  repeats : sp.repeats = (s.chan c).sp.repeats
  superseded : (s.chan c).sp.superseded ≤ 65535 → sp.superseded ≤ 65535

theorem Offered.quiet {sp : Setpoint} {n : Nat} (h : Offered s c sp n) {ch : Channel} (hsp : ch.sp = sp)
    (hq : quietOk (s.cfg c).shadow (s.chan c)) : quietOk (s.cfg c).shadow ch := by
  intro _ hrun
  rw [hsp] at hrun
  obtain ⟨hshadow, hword⟩ := h.word hrun
  exact hq (.inr (.inr hshadow)) hword

/-- The slot after an offer. -/
theorem offer_cases (sp : Setpoint) (f : SpFrame) (n : Nat) :
    (sp.pending = none ∧ sp.offer f n = { sp with pending := some f, since := some n }) ∨
      (∃ p, sp.pending = some p ∧ p.command = .openPath ∧ sp.offer f n = sp) ∨
      (∃ p, sp.pending = some p ∧ p.command ≠ .openPath ∧
        sp.offer f n = { sp with pending := some f, superseded := bump sp.superseded }) := by
  unfold Setpoint.offer
  cases hp : sp.pending with
  | none => exact .inl ⟨rfl, rfl⟩
  | some p =>
    cases hc : p.command with
    | openPath => exact .inr (.inl ⟨p, rfl, hc, by simp only [hc]⟩)
    | run | zero => exact .inr (.inr ⟨p, rfl, by rw [hc]; decide, by simp only [hc]⟩)

theorem lastWord_of_pending {sp : Setpoint} {f : SpFrame} (h : sp.pending = some f) : sp.lastWord = some f.command := by
  simp [Setpoint.lastWord, h]

/-- An offer keeps the timers and the counters in range, and its pending-since number is the old one or the next. -/
theorem offer_since (sp : Setpoint) (f : SpFrame) (n : Nat) :
    (sp.pending.isSome = true ∧ (sp.offer f n).since = sp.since) ∨ (sp.offer f n).since = some n := by
  obtain ⟨-, h⟩ | ⟨p, hp, -, h⟩ | ⟨p, hp, -, h⟩ := offer_cases sp f n <;> rw [h]
  · exact .inr rfl
  · exact .inl ⟨by simp [hp], rfl⟩
  · exact .inl ⟨by simp [hp], rfl⟩

theorem offer_superseded {sp : Setpoint} (f : SpFrame) (n : Nat) (h : sp.superseded ≤ 65535) :
    (sp.offer f n).superseded ≤ 65535 := by
  obtain ⟨-, ho⟩ | ⟨p, -, -, ho⟩ | ⟨p, -, -, ho⟩ := offer_cases sp f n <;> rw [ho]
  · exact h
  · exact h
  · exact bump_le _

theorem offer_repeats (sp : Setpoint) (f : SpFrame) (n : Nat) : (sp.offer f n).repeats = sp.repeats := by
  obtain ⟨-, ho⟩ | ⟨p, -, -, ho⟩ | ⟨p, -, -, ho⟩ := offer_cases sp f n <;> rw [ho]

theorem offer_refresh_eq (sp : Setpoint) (f : SpFrame) (n : Nat) : (sp.offer f n).refresh = sp.refresh := by
  obtain ⟨-, ho⟩ | ⟨p, -, -, ho⟩ | ⟨p, -, -, ho⟩ := offer_cases sp f n <;> rw [ho]

/-- After an offer the last word is the offered command or OPEN. -/
theorem offer_lastWord (sp : Setpoint) (f : SpFrame) (n : Nat) :
    (sp.offer f n).lastWord = some f.command ∨ (sp.offer f n).lastWord = some .openPath := by
  obtain ⟨-, ho⟩ | ⟨p, hp, hc, ho⟩ | ⟨p, -, -, ho⟩ := offer_cases sp f n <;> rw [ho]
  · exact .inl (lastWord_of_pending rfl)
  · exact .inr (by rw [lastWord_of_pending hp, hc])
  · exact .inl (lastWord_of_pending rfl)

/-- A slot that no frame was offered to. -/
theorem Offered.same (s : State) (c : ChanId) (h : (s.cfg c).shadow = true) (n : Nat) : Offered s c (s.chan c).sp n :=
  ⟨fun h => .inl ⟨h, rfl⟩, fun hw => ⟨h, hw⟩, rfl, rfl, id⟩

theorem Offered.offer (s : State) (c : ChanId) {f : SpFrame} (hf : f.command ≠ .run) (hs : (s.cfg c).shadow = false) :
    Offered s c ((s.chan c).sp.offer f s.nextSince) 1 where
  since _ := (offer_since (s.chan c).sp f s.nextSince).imp id fun h => ⟨hs, 0, Nat.one_pos, h⟩
  word hw := by
    obtain h | h := offer_lastWord (s.chan c).sp f s.nextSince
    · exact absurd (Option.some.inj (h.symm.trans hw)) hf
    · rw [hw] at h
      cases h
  refresh := offer_refresh_eq ..
  repeats := offer_repeats ..
  superseded h := offer_superseded _ _ h

theorem Offered.slot (s : State) (c : ChanId) {cmd : SpCommand} (hcmd : cmd ≠ .run) (i : Int) :
    Offered s c (s.slot c cmd i s.nextSince) 1 := by
  unfold State.slot
  split
  · next h => exact .same s c h 1
  · next h => exact .offer s c hcmd (Bool.eq_false_iff.mpr h)

/-- A slot that differs from an offered one only in the number of its next frame. -/
theorem Offered.nextSeq {sp : Setpoint} {n : Nat} (h : Offered s c sp n) (b : Byte) :
    Offered s c { sp with nextSeq := b } n := ⟨h.since, h.word, h.refresh, h.repeats, h.superseded⟩

/-- The refresh timer may be stopped besides. -/
theorem accountsOk_of_offered {sp : Setpoint} {n : Nat} (h : Offered s c sp n) {ch : Channel} (hok : accountsOk (s.chan c))
    (hacct : ch.acct.inRange) (htrack : ch.track = (s.chan c).track)
    (hoff : ch.state = .off → (s.chan c).state = .off) (hsp : ch.sp = sp)
    (hlost : ch.seq.lostEval = (s.chan c).seq.lostEval) (hcycle : ch.seq.cycleCount = (s.chan c).seq.cycleCount) :
    accountsOk ch := by
  obtain ⟨-, ⟨href, hcount, hlatch, hstop, haux⟩, hdup, hstale, hmiss, hgap, hcad, hl, hsuper, hrep, hcyc⟩ := hok
  refine ⟨hacct, ⟨?_, ?_, ?_, fun ho => ?_, ?_⟩, ?_⟩
  · rwa [htrack]
  · rwa [htrack]
  · rwa [htrack]
  · rw [htrack, hsp, h.refresh]
    exact hstop (hoff ho)
  · rwa [htrack]
  · unfold Channel.countersOk
    rw [htrack, hsp, hlost, hcycle, h.repeats]
    exact ⟨hdup, hstale, hmiss, hgap, hcad, hl, h.superseded hsuper, hrep, hcyc⟩
end Sys2Proof.Proofs
end

section
/-! The events of the sequencer: transitions, program faults, the evaluation of a delivery and the records of a fetch, each
shown to keep every invariant. -/

namespace Sys2Proof.Proofs

open Sys2Proof Sys2Proof.Machine

variable {F : Prop} {s t : State} {c : ChanId}

/-! ## Events that touch no channel -/

/-- `t` differs from `s` in nothing that the invariants say of channels, transitions, slots and configuration. -/
structure SameChannels (s t : State) : Prop where
  channels : t.channels = s.channels
  fetchQueue : t.fetchQueue = s.fetchQueue
  port : ∀ x o, t.port = .fetch x o true ↔ s.port = .fetch x o true
  configTable : t.configTable = s.configTable
  limitTable : t.limitTable = s.limitTable
  nextSince : t.nextSince = s.nextSince
  resetN : t.resetN = true → s.resetN = true
  pending : t.pending = s.pending

theorem SameChannels.chan (h : SameChannels s t) (x : ChanId) : t.chan x = s.chan x := by
  unfold State.chan
  rw [h.channels]

theorem SameChannels.cfg (h : SameChannels s t) (x : ChanId) : t.cfg x = s.cfg x := by
  unfold State.cfg
  rw [h.configTable]

theorem SameChannels.limits (h : SameChannels s t) (x : ChanId) : t.limits x = s.limits x := by
  unfold State.limits State.limitSet
  rw [h.cfg, h.limitTable]

theorem fetchesFor_iff (p : PortState) (x : ChanId) : p.fetchesFor x = true ↔ ∃ o, p = .fetch x o true := by
  cases p <;> simp [PortState.fetchesFor, and_comm]

theorem SameChannels.fetchesFor (h : SameChannels s t) (x : ChanId) :
    t.port.fetchesFor x = true ↔ s.port.fetchesFor x = true := by
  simp only [fetchesFor_iff, h.port]

theorem SameChannels.flightsOk (h : SameChannels s t) (hs : s.flightsOk) : t.flightsOk := by
  obtain ⟨⟨hnodup, hmem⟩, hport, hlocal⟩ := hs
  refine ⟨⟨h.fetchQueue ▸ hnodup, fun x => ?_⟩, (portOk_iff t).mpr fun x i hp => ?_, fun x => ?_⟩
  · rw [h.chan, h.fetchQueue, h.fetchesFor]
    exact hmem x
  · rw [h.chan]
    exact (portOk_iff s).mp hport x i ((h.port x _).mp hp)
  · rw [h.chan]
    exact hlocal x

theorem SameChannels.keeps (h : SameChannels s t) (hbooks : booksOk s → booksOk t) (htables : tablesOk s → tablesOk t)
    (hinit : s.initOk → t.initOk) : Keeps F s t where
  pending := h.pending
  books := hbooks
  tables := htables
  accounts hs x := by
    rw [h.chan]
    exact hs x
  flights _ := h.flightsOk
  slots _ _ hs := by
    obtain ⟨hquiet, hsince, hinj⟩ := hs
    refine ⟨fun hr x => ?_, fun x => ?_, fun x y => ?_⟩
    · rw [h.chan, h.cfg]
      exact hquiet (h.resetN hr) x
    · rw [h.chan, h.nextSince]
      exact hsince x
    · rw [h.chan, h.chan]
      exact hinj x y
  supervision _ _ hs x := by
    rw [h.chan]
    exact hs x
  configuration _ _ hs := by
    refine ⟨fun x => ?_, hinit hs.2⟩
    rw [h.chan, h.cfg, h.limits]
    exact hs.1 x

theorem SameChannels.trans {u : State} (h : SameChannels s t) (k : SameChannels t u) : SameChannels s u :=
  ⟨k.channels.trans h.channels, k.fetchQueue.trans h.fetchQueue, fun x o => (k.port x o).trans (h.port x o),
    k.configTable.trans h.configTable, k.limitTable.trans h.limitTable, k.nextSince.trans h.nextSince,
    h.resetN ∘ k.resetN, k.pending.trans h.pending⟩

/-! ## Management accesses (R52, R63) -/

/-- An access is due only at the free port, and a management access only for a table request in execution. -/
theorem dueAccess_management (h : s.dueAccess = some .management) : s.port = .free ∧ s.job.isSome = true := by
  unfold State.dueAccess at h
  split at h
  · next hfree =>
    rw [Bool.and_eq_true, beq_iff_eq] at hfree
    refine ⟨hfree.2, ?_⟩
    split at h <;> simp_all
  · cases h

theorem keeps_startAccess (h : s.dueAccess = some .management) : Keeps F s s.startAccess := by
  obtain ⟨hfree, hjob⟩ := dueAccess_management h
  refine SameChannels.keeps ⟨rfl, rfl, fun x o => ?_, rfl, rfl, rfl, id, rfl⟩ ?_ id id
  · simp [State.startAccess, hfree]
  · rintro ⟨hq, hw, hbook, hreset, -, hmark⟩
    exact ⟨hq, hw, hbook, hreset, fun _ => ⟨hjob, rfl⟩, hmark⟩

theorem keeps_portNext (s : State) : Keeps F s s.portNext := by
  unfold State.portNext
  split
  · next h => exact keeps_startAccess h
  · exact .refl F s
  · exact .refl F s

/-- A table stores nothing but its old entries and the record just written. -/
theorem forall_mem_write {α : Type} [DecidableEq α] {P : α → Prop} {d : α} {tb : Table α} {i : Nat} {v : α}
    (h : ∀ p ∈ tb, P p.2) (hv : P v) : ∀ p ∈ Table.write d tb i v, P p.2 := by
  induction tb with
  | nil =>
    rw [Table.write]
    split
    · exact h
    · simpa using hv
  | cons e tb ih =>
    obtain ⟨he, htb⟩ := List.forall_mem_cons.mp h
    rw [Table.write]
    split
    · split
      · exact htb
      · exact List.forall_mem_cons.mpr ⟨hv, htb⟩
    · split
      · split
        · exact h
        · exact List.forall_mem_cons.mpr ⟨hv, h⟩
      · exact List.forall_mem_cons.mpr ⟨he, ih htb⟩

theorem forall_mem_writeAll {α : Type} [DecidableEq α] {P : α → Prop} {d : α} {tb : Table α} {i : Nat} {vs : List α}
    (h : ∀ p ∈ tb, P p.2) (hv : ∀ v ∈ vs, P v) : ∀ p ∈ Table.writeAll d tb i vs, P p.2 := by
  induction vs generalizing tb i with
  | nil => exact h
  | cons v vs ih =>
    exact ih (forall_mem_write h (hv v (List.mem_cons_self ..))) fun w hw => hv w (List.mem_cons_of_mem v hw)

/-- The record work of an access stores only records that passed their checks (R52). -/
theorem portWrite_recordsOk {k : PortTable} {i : Nat} {b : List Byte} (h : s.recordsOk) : (s.portWrite k i b).recordsOk := by
  obtain ⟨hstep, hprogram, hsegment, hprofile, hrest⟩ := h
  cases k with
  | step =>
    cases hr : readStep b <;> simp only [State.portWrite, hr]
    · exact ⟨hstep, hprogram, hsegment, hprofile, hrest⟩
    · exact ⟨forall_mem_write hstep (readStep_wf hr), hprogram, hsegment, hprofile, hrest⟩
  | program =>
    cases hr : readProgram b <;> simp only [State.portWrite, hr]
    · exact ⟨hstep, hprogram, hsegment, hprofile, hrest⟩
    · exact ⟨hstep, forall_mem_write hprogram (readProgram_wf hr), hsegment, hprofile, hrest⟩
  | segment =>
    cases hr : readSegment b <;> simp only [State.portWrite, hr]
    · exact ⟨hstep, hprogram, hsegment, hprofile, hrest⟩
    · exact ⟨hstep, hprogram, forall_mem_write hsegment (readSegment_wf hr), hprofile, hrest⟩
  | profile =>
    cases hr : readProfile b <;> simp only [State.portWrite, hr]
    · exact ⟨hstep, hprogram, hsegment, hprofile, hrest⟩
    · exact ⟨hstep, hprogram, hsegment, forall_mem_write hprofile (readProfile_wf hr), hrest⟩

/-- What an access leaves alone of the tables' books. -/
theorem accessRecord_frame (s : State) (j : TableJob) :
    (s.accessRecord j).job = s.job ∧ (s.accessRecord j).acceptTable = s.acceptTable := by
  rw [State.accessRecord_eq]
  exact ⟨rfl, rfl⟩

theorem accessRecord_tablesOk {j : TableJob} (hi : j.index < j.table.size) (h : s.tablesWf ∧ s.recordsOk) :
    (s.accessRecord j).tablesWf ∧ (s.accessRecord j).recordsOk := by
  unfold State.accessRecord
  split
  · exact ⟨State.portWrite_tablesWf h.1 hi, portWrite_recordsOk h.2⟩
  · exact h

theorem finishAccess_tablesOk {j : TableJob} {r : Request} (hjob : s.job = some j) (h : tablesOk s) :
    tablesOk (State.finishAccess { s with port := .free } j r) := by
  obtain ⟨hwf, hrec, hj, hprim⟩ := h
  simp only [State.jobOk, hjob, Option.all_some, Bool.and_eq_true, decide_eq_true_eq] at hj
  obtain ⟨hleft, hend⟩ := hj
  have htables := accessRecord_tablesOk (s := { s with port := .free }) (j := j) (by omega) ⟨hwf, hrec⟩
  have hprim' : acceptConflict (State.accessRecord { s with port := .free } j).acceptTable = false := by
    rw [(accessRecord_frame _ j).2]
    exact hprim
  unfold State.finishAccess
  split
  · exact ⟨htables.1, htables.2, rfl, hprim'⟩
  · next hmore =>
    refine ⟨htables.1, htables.2, ?_, hprim'⟩
    simp only [State.jobNext] at hmore
    simp only [State.jobOk, State.jobNext, Option.all_some, Bool.and_eq_true, decide_eq_true_eq]
    omega

theorem finishAccess_booksOk {j : TableJob} {r : Request} {rest : List Request} (hjob : s.job = some j)
    (hreq : s.requests = r :: rest) (h : booksOk s) :
    booksOk (State.finishAccess { s with port := .free } j r) := by
  obtain ⟨⟨hdown, hup, hreqs, hans, hreports⟩, hwait, hbook, hreset, -, hmark, htx⟩ := h
  have hroom := (hbook (by simp [hjob])).2
  have hpending : ¬ s.resetPending = true := fun hp => by simp [hreset hp] at hjob
  unfold State.finishAccess
  rw [State.accessRecord_eq]
  split
  · refine ⟨⟨hdown, hup, ?_, ?_, hreports⟩, hwait, ?_, fun _ => rfl, ?_, ?_, htx⟩
    · show s.requests.tail.length ≤ 4
      rw [List.length_tail]
      omega
    · show (s.answers ++ [_]).length ≤ 2
      rw [List.length_append, List.length_singleton]
      omega
    · rintro ⟨⟩
    · rintro ⟨⟩
    · intro hany
      refine hmark ?_
      simpa [State.placeAnswer, List.any_append] using hany
  · exact ⟨⟨hdown, hup, hreqs, hans, hreports⟩, hwait, fun _ => ⟨by simp [hreq], hroom⟩,
      fun hp => absurd hp hpending, nofun, hmark, htx⟩

theorem completeAccess_sameChannels (s : State) : SameChannels s s.completeAccess := by
  refine ⟨?_, ?_, fun x o => ?_, ?_, ?_, ?_, ?_, ?_⟩
  case refine_3 =>
    unfold State.completeAccess
    split
    · next hp =>
      rw [hp]
      split
      · unfold State.finishAccess
        rw [State.accessRecord_eq]
        split <;> simp [State.placeAnswer]
      · simp
      · simp
    · rfl
    · rfl
  all_goals rw [State.completeAccess_eq]
  exact id

/-- A management access that completes (R52, R53, R55). -/
theorem keeps_completeAccess (s : State) : Keeps F s s.completeAccess := by
  refine (completeAccess_sameChannels s).keeps (fun h => ?_) (fun h => ?_) (fun h => ?_)
  · unfold State.completeAccess
    split
    · split
      · next hjob hreq => exact finishAccess_booksOk hjob hreq h
      · next hjob hreq =>
        obtain ⟨-, -, hbook, -⟩ := h
        exact absurd hreq (hbook (by simp [hjob])).1
      · obtain ⟨hq, hw, hbook, hreset, -, hmark⟩ := h
        exact ⟨hq, hw, hbook, hreset, nofun, hmark⟩
    · exact h
    · exact h
  · unfold State.completeAccess
    split
    · split
      · next j r rest hjob hreq => exact finishAccess_tablesOk hjob h
      · obtain ⟨hwf, hrec, -, hprim⟩ := h
        exact ⟨hwf, hrec, rfl, hprim⟩
      · exact h
    · exact h
    · exact h
  · obtain ⟨hclear, hinit⟩ := h
    have hchan := (completeAccess_sameChannels s).chan
    have heng : s.completeAccess.engine = s.engine := by rw [State.completeAccess_eq]
    have hclr : s.completeAccess.clearing = s.clearing := by rw [State.completeAccess_eq]
    refine ⟨?_, fun he => ?_⟩
    · rw [heng, hclr]
      exact hclear
    · rw [heng] at he
      obtain ⟨hoff, hreq, hans, hrep⟩ := hinit he
      have hsame : s.completeAccess.requests = [] ∧ s.completeAccess.answers = [] := by
        unfold State.completeAccess
        split
        · split
          · next hr => simp [hreq] at hr
          · exact ⟨hreq, hans⟩
          · exact ⟨hreq, hans⟩
        · exact ⟨hreq, hans⟩
        · exact ⟨hreq, hans⟩
      refine ⟨fun x => (hchan x).symm ▸ hoff x, hsame.1, hsame.2, ?_⟩
      rw [State.completeAccess_eq]
      exact hrep

/-! ## The reads of a PROFILE evaluation (R51) -/

theorem keeps_landWrites (n : Nat) (s : State) : Keeps F s (s.landWrites n) := by
  induction n generalizing s with
  | zero => exact .refl F s
  | succ n ih => exact ((keeps_portNext s).trans (keeps_completeAccess s.portNext)).trans (ih s.landWrite)

theorem keeps_betweenReads (s : State) : Keeps F s s.betweenReads := by
  unfold State.betweenReads
  split
  · exact .refl F s
  · have hcounted : Keeps F s { s with readRaces := s.readRaces + 1 } :=
      SameChannels.keeps ⟨rfl, rfl, fun _ _ => Iff.rfl, rfl, rfl, rfl, id, rfl⟩ id id id
    exact hcounted.trans (keeps_landWrites _ _)

theorem keeps_profileAdvance (d : ProfileDesc) (ts n : Nat) (s : State) (o start : Nat) :
    Keeps F s (profileAdvance d ts n s o start).after := by
  induction n generalizing s o start with
  | zero => exact .refl F s
  | succ n ih =>
    rw [profileAdvance]
    split
    · split
      · exact .refl F s
      · exact ih ..
    · dsimp only
      split
      · exact (keeps_betweenReads s).trans (ih ..)
      · exact keeps_betweenReads s

end Sys2Proof.Proofs
end

section
/-! The sequencer keeps the invariants: the beginning of a transition, the evaluation of a delivery, and what a completed fetch
does with the record it read. -/

namespace Sys2Proof.Proofs

open Sys2Proof Sys2Proof.Machine

variable {F : Prop} {s : State} {c : ChanId}

/-! ## Moves that offer ZERO or OPEN -/

/-- A move whose slot took an offer of ZERO or OPEN, of a channel that is not OFF. -/
theorem MoveOk.of_offered {ch : Channel} {n : Nat} {l : List Body} (hsp : Offered s c ch.sp n)
    (hacc : accountsOk (s.chan c) → accountsOk ch) (hflight : F → flightOk (s.chan c) → flightOk ch)
    (hsup : F → flightOk (s.chan c) → (s.chan c).supervisionOk → ch.supervisionOk)
    (hon : F → flightOk (s.chan c) → (s.chan c).state ≠ .off) : MoveOk F s c ch n l :=
  ⟨hacc, hflight, hsup, fun _ _ => hsp.quiet rfl, hsp.since, fun hF hf _ => .inl (hon hF hf),
    fun hF hf _ ho => absurd ho (hon hF hf)⟩

/-- The supervision of a channel that is not ISOLATED stays when only its state changes. -/
theorem supervisionOk_of_state {ch ch' : Channel} (h : ch.supervisionOk) (hstate : ch.state ≠ .isolated)
    (hsup : ch'.sup = ch.sup) : ch'.supervisionOk := by
  obtain ⟨hscore, hlevel, hrec, hzero, hfault⟩ := h
  unfold Channel.supervisionOk
  rw [hsup]
  exact ⟨hscore, hlevel, hrec, fun _ => hzero hstate, hfault⟩

theorem flightOk_begun {ch : Channel} (hstate : ch.state = .running) (hstack : ch.seq.stack.length ≤ 8) (i : Nat)
    (hp : Option HoldKind) (sp : Setpoint) : flightOk (ch.begun i hp sp) := by
  refine ⟨⟨fun _ => ⟨hstate, rfl⟩, nofun⟩, ⟨fun _ => nofun, nofun⟩, ⟨hstack, Nat.zero_le _⟩, fun h => ?_, fun h => ?_⟩
  · exact absurd (hstate.symm.trans h) (by decide)
  · exact absurd (hstate.symm.trans h) (by decide)

theorem resetStep_inRange {a : Accounts} (h : a.inRange) : a.resetStep.inRange := by
  obtain ⟨-, -, -, hrest⟩ := h
  exact ⟨Nat.zero_le _, Nat.zero_le _, Nat.zero_le _, hrest⟩

theorem resetCycle_inRange {a : Accounts} (h : a.inRange) : a.resetCycle.inRange := by
  obtain ⟨hqs, hes, hts, -, -, -, -, -, hrest⟩ := h
  exact ⟨hqs, hes, hts, Nat.zero_le _, Nat.zero_le _, Nat.zero_le _, Nat.zero_le _, Nat.zero_le _, hrest⟩

/-- A RUNNING channel with no transition in flight begins one (R61). -/
theorem keeps_beginTransition (hrun : F → (s.chan c).state = .running)
    (hidle : F → flightOk (s.chan c) → (s.chan c).seq.inFlight = false) (i : Nat) (hp : Option HoldKind) :
    Keeps F s (s.beginTransition c i hp) := by
  rw [State.beginTransition_eq_after]
  have hoffer := Offered.slot s c (cmd := .zero) (by decide) 0
  refine MoveOk.keeps_begin (.of_offered hoffer (fun h => ?_) (fun hF hf => ?_) (fun _ _ h => h) (fun hF _ ho => ?_)) hidle rfl
  · exact accountsOk_of_offered hoffer h (resetStep_inRange h.1) rfl id rfl rfl rfl
  · exact flightOk_begun (hrun hF) hf.2.2.1.1 ..
  · exact absurd ((hrun hF).symm.trans ho) (by decide)

/-! ## The evaluation of a delivery -/

theorem stepEnd_chan (s : State) (c : ChanId) (cause : EndCause) (v : Nat) (i : Int) (t : Option Int) (x : ChanId) :
    (s.stepEnd c cause v i t).chan x = s.chan x := by
  rw [State.stepEnd_eq_after, after_channels]
  split
  · next h => rw [h]
  · rfl

/-- A record of the step's end, then a transition. -/
theorem keeps_stepEnd_begin (hrun : F → (s.chan c).state = .running) (hidle : (s.chan c).seq.inFlight = false)
    (cause : EndCause) (v : Nat) (x : Int) (t : Option Int) (i : Nat) (hp : Option HoldKind) :
    Keeps F s ((s.stepEnd c cause v x t).beginTransition c i hp) := by
  refine (keeps_stepEnd cause v x t fun hF ho => ?_).trans (keeps_beginTransition ?_ ?_ i hp)
  · exact absurd ((hrun hF).symm.trans ho) (by decide)
  · rwa [stepEnd_chan]
  · rw [stepEnd_chan]
    exact fun _ _ => hidle

/-- The stack loses frames. -/
theorem keeps_popStack {rest : List StackFrame} (hrest : rest.length ≤ (s.chan c).seq.stack.length) :
    Keeps F s (s.modSeq c (fun q => { q with stack := rest })) :=
  keeps_modSeq _ id (fun _ ⟨hf, hst, ⟨hstack, hchain⟩, hres⟩ => ⟨hf, hst, ⟨hrest.trans hstack, hchain⟩, hres⟩) rfl
    fun _ _ _ => rfl

/-- The slot after a second offer of ZERO or OPEN at one event. -/
theorem Offered.offer_again {sp : Setpoint} {n : Nat} (h : Offered s c sp n) {f : SpFrame} (hf : f.command ≠ .run)
    (hs : (s.cfg c).shadow = false) : Offered s c (sp.offer f (s.nextSince + n)) (n + 1) where
  since hp := by
    obtain ⟨hpend, heq⟩ | heq := offer_since sp f (s.nextSince + n)
    · obtain ⟨hpend', heq'⟩ | ⟨-, m, hm, heq'⟩ := h.since hpend
      · exact .inl ⟨hpend', heq.trans heq'⟩
      · exact .inr ⟨hs, m, by omega, heq.trans heq'⟩
    · exact .inr ⟨hs, n, by omega, heq⟩
  word hw := by
    obtain h | h := offer_lastWord sp f (s.nextSince + n)
    · exact absurd (Option.some.inj (h.symm.trans hw)) hf
    · rw [hw] at h
      cases h
  refresh := (offer_refresh_eq ..).trans h.refresh
  repeats := (offer_repeats ..).trans h.repeats
  superseded := offer_superseded _ _ ∘ h.superseded

/-! ### The fault record -/

theorem mem_causeUnion {a b : List Cause} {x : Cause} : x ∈ causeUnion a b ↔ x ∈ a ∨ x ∈ b := by
  have hall : x ∈ allCauses := by cases x <;> decide
  simp [causeUnion, hall]

/-- A union of cause sets is listed once each and in code order. -/
theorem causeUnion_canonical (a b : List Cause) :
    causeUnion a b = allCauses.filter (fun x => (causeUnion a b).contains x) := by
  conv_lhs => rw [causeUnion]
  refine List.filter_congr fun x _ => ?_
  rw [Bool.eq_iff_iff]
  simp [mem_causeUnion]

/-- An entry that carries a temperature carries its sample's V and I. -/
abbrev entryOk (e : FaultEntry) : Prop := e.vi = none → e.t = none

theorem FaultRecord.ok_enter {f : FaultRecord} (h : f.ok) {e : FaultEntry} (he : entryOk e) (mode : FaultMode)
    (pos : Nat × Nat) (at_ : Tick) : (f.enter e mode pos at_).ok := by
  obtain ⟨hcount, hcauses, hempty, hfirst, hitems, hvi⟩ := h
  refine ⟨bump_le _, ?_, ?_, ?_, fun _ => ⟨?_, ?_, one_le_bump _⟩, ?_⟩
  · cases mode with
    | first =>
      dsimp only [FaultRecord.enter]
      split
      · exact causeUnion_canonical ..
      · exact hcauses
    | accumulate => exact causeUnion_canonical ..
  · intro hnone
    cases hf : f.first <;> simp [FaultRecord.enter, hf] at hnone
  · cases hf : f.first with
    | none => cases mode <;> simp [FaultRecord.enter, hf, mem_causeUnion, FaultEntry.causes]
    | some x =>
      have hx : x ∈ f.causes := by simpa [hf] using hfirst
      cases mode <;> simp [FaultRecord.enter, hf, mem_causeUnion, hx]
  · cases hf : f.first with
    | none => simp [FaultRecord.enter, hf]
    | some x => simpa [FaultRecord.enter, hf] using (hitems (by simp [hf])).1
  · cases hf : f.first with
    | none => simp [FaultRecord.enter, hf]
    | some x => simpa [FaultRecord.enter, hf] using (hitems (by simp [hf])).2.1
  · cases hf : f.first with
    | none => simpa [FaultRecord.enter, hf] using he
    | some x => simpa [FaultRecord.enter, hf] using hvi

theorem entryOk_bare (x : Cause) : entryOk (FaultEntry.bare x) := fun _ => rfl

/-- The supervision after an entry, with the recovery count and the hard mark as given. -/
theorem supervisionOk_entered {ch : Channel} (hsup : ch.sup.score = (s.chan c).sup.score)
    (hlevel : ch.sup.level = (s.chan c).sup.level) (hrec : ch.sup.recovery < 64)
    (hzero : ch.state ≠ .isolated → ch.sup.recovery = 0) {e : FaultEntry} (he : entryOk e)
    (hfault : ch.sup.fault = s.entered c e) (h : (s.chan c).supervisionOk) : ch.supervisionOk := by
  obtain ⟨hs, hl, -, -, hf⟩ := h
  refine ⟨by rwa [hsup], by rwa [hlevel, hsup], hrec, hzero, ?_⟩
  rw [hfault]
  exact FaultRecord.ok_enter hf he ..

/-! ### A terminator fires -/

/-- The ZERO frame that is offered to a channel's slot (R91, R99). -/
abbrev zeroFrame (s : State) (c : ChanId) : SpFrame :=
  { stage := (s.cfg c).stage, command := .zero, current := 0, rep := false, final := false }

/-- The slot after two offers of ZERO at one event. -/
abbrev slotTwice (s : State) (c : ChanId) : Setpoint :=
  if (s.cfg c).shadow then (s.chan c).sp
  else ((s.chan c).sp.offer (zeroFrame s c) s.nextSince).offer (zeroFrame s c) (s.nextSince + 1)

/-- What a BREAK without a loop makes of a channel: the transition that begins at once ends in the fault (R75,
notes/assumptions/14.md). -/
theorem openTransition_programFault_eq_after (s : State) (c : ChanId) (i : Nat) (f : Cause) :
    (s.openTransition c i none).programFault c f =
      s.after c
        { s.chan c with
          state := .held, acct := (s.chan c).acct.resetStep
          seq := { (s.chan c).seq.dropped none .fault with peak := none, ordinal := 0, segStart := 0, index := i }
          sup := { (s.chan c).sup with
            fault := (s.chan c).sup.fault.enter (FaultEntry.bare f) (s.cfg c).mode ((s.chan c).seq.selector, i) s.timeBase }
          sp := slotTwice s c }
        2 (.fault { cause := f, action := .programFault, selector := (s.chan c).seq.selector, index := i, v := 0, i := 0,
                    t := none } ::
            s.stateBody c (s.chan c).state .held (s.chan c).sup.level .programFault) := by
  rw [State.openTransition_eq_after, State.programFault_eq_after, State.after_after, State.after_slot, State.after_nextSince,
    State.after_entered, State.after_chan_self, State.after_faultBodyOf, State.after_stateBody]
  unfold slotTwice State.slot
  cases hs : (s.cfg c).shadow <;> rfl

theorem Offered.twice (s : State) (c : ChanId) : Offered s c (slotTwice s c) 2 := by
  unfold slotTwice
  split
  · next hs => exact .same s c hs 2
  · next hs =>
    have hs := Bool.eq_false_iff.mpr hs
    exact (Offered.offer s c (f := zeroFrame s c) (by simp) hs).offer_again (by simp) hs

theorem keeps_openTransition_programFault (hrun : F → (s.chan c).state = .running) (i : Nat) (f : Cause)
    (hidle : F → flightOk (s.chan c) → (s.chan c).seq.inFlight = false) :
    Keeps F s ((s.openTransition c i none).programFault c f) := by
  rw [openTransition_programFault_eq_after]
  have hoffer := Offered.twice s c
  refine MoveOk.keeps_after (.of_offered hoffer (fun h => ?_) (fun _ hf => ?_) (fun hF hf h => ?_) (fun hF _ ho => ?_))
    (fun hF hf => (hidle hF hf).symm) (fun _ _ hin => ?_)
  · exact accountsOk_of_offered hoffer h (resetStep_inRange h.1) rfl nofun rfl rfl rfl
  · obtain ⟨-, -, ⟨hstack, -⟩, -⟩ := hf
    exact ⟨⟨nofun, fun _ => ⟨rfl, rfl, rfl⟩⟩, ⟨nofun, nofun⟩, ⟨hstack, Nat.zero_le _⟩, fun _ => ⟨nofun, nofun, nofun⟩, nofun⟩
  · obtain ⟨hs, hl, hr, hz, hfault⟩ := h
    exact ⟨hs, hl, hr, fun _ => hz (by rw [hrun hF]; decide), FaultRecord.ok_enter hfault (entryOk_bare f) ..⟩
  · exact absurd ((hrun hF).symm.trans ho) (by decide)
  · cases hin

/-- A terminator with action END (R74). -/
theorem endProgram_eq_after (s : State) (c : ChanId) :
    ((s.modSeq c (fun q => { q with stepCopy := none, stack := [], resume := .none })).offerZero c).changeState c
        .complete .endProgram =
      s.after c
        { s.chan c with
          state := .complete, seq := { (s.chan c).seq with stepCopy := none, stack := [], resume := .none }
          sp := s.slot c .zero 0 s.nextSince }
        1 (s.stateBody c (s.chan c).state .complete (s.chan c).sup.level .endProgram) := by
  rw [State.changeState_eq_after, State.offerZero_eq_after, State.modSeq_eq_after, State.after_after, State.after_after]
  simp [State.slot]

theorem keeps_endProgram (hrun : F → (s.chan c).state = .running)
    (hidle : F → flightOk (s.chan c) → (s.chan c).seq.inFlight = false) :
    Keeps F s (((s.modSeq c (fun q => { q with stepCopy := none, stack := [], resume := .none })).offerZero c).changeState c
      .complete .endProgram) := by
  rw [endProgram_eq_after]
  have hoffer := Offered.slot s c (cmd := .zero) (by decide) 0
  refine MoveOk.keeps_after (.of_offered hoffer (fun h => ?_) (fun hF hf => ?_) (fun hF _ h => ?_) (fun hF _ ho => ?_))
    (fun _ _ => rfl) (fun _ _ _ => rfl)
  · exact accountsOk_of_offered hoffer h h.1 rfl nofun rfl rfl rfl
  · have hin := hidle hF hf
    obtain ⟨⟨-, hclear⟩, -, ⟨-, hchain⟩, -⟩ := hf
    exact ⟨⟨fun h => absurd (hin.symm.trans h) (by decide), fun _ => hclear hin⟩, ⟨nofun, nofun⟩, ⟨Nat.zero_le _, hchain⟩,
      nofun, nofun⟩
  · exact supervisionOk_of_state h (by rw [hrun hF]; decide) rfl
  · exact absurd ((hrun hF).symm.trans ho) (by decide)

theorem keeps_fire (hrun : F → (s.chan c).state = .running) (hidle : (s.chan c).seq.inFlight = false) (cause : EndCause)
    (tm : Terminator) (d : Delivery) : Keeps F s (s.fire c cause tm d) := by
  have hend : Keeps F s (s.stepEnd c cause d.v d.i d.t) :=
    keeps_stepEnd _ _ _ _ fun hF ho => absurd ((hrun hF).symm.trans ho) (by decide)
  have hsame := stepEnd_chan s c cause d.v d.i d.t c
  unfold State.fire
  cases tm.action with
  | next | goto | hold => exact keeps_stepEnd_begin hrun hidle ..
  | endProgram => exact hend.trans (keeps_endProgram (by rwa [hsame]) (by rw [hsame]; exact fun _ _ => hidle))
  | brk =>
    have hfault (i : Nat) : Keeps F s (((s.stepEnd c cause d.v d.i d.t).openTransition c i none).programFault c .nesting) :=
      hend.trans (keeps_openTransition_programFault (by rwa [hsame]) _ _ (by rw [hsame]; exact fun _ _ => hidle))
    dsimp only
    split
    · next start finish remaining cycle rest hstack =>
      refine hend.trans ((keeps_popStack (rest := rest) ?_).trans (keeps_beginTransition ?_ ?_ _ _))
      · rw [hsame, hstack]
        exact Nat.le_succ _
      · simpa [hsame] using hrun
      · exact fun _ _ => by simpa [hsame] using hidle
    · exact hfault _
    · exact hfault _

/-! ### The setpoint of an evaluation -/

/-- The RUN of an evaluation of a RUNNING channel's step (R86). -/
theorem keeps_emitRun (hrun : F → (s.chan c).state = .running) (hidle : (s.chan c).seq.inFlight = false) (r : StepRecord)
    (d : Delivery) (x : Int) : Keeps F s (s.emitRun c r d x) := by
  rw [State.emitRun_eq_after s c r d x _ _ rfl rfl]
  have hslot : ∀ (sp : Setpoint), sp = s.slot c .run
      (emitted (s.chan c).sup.level (evalR (s.chan c) r d.v x)) s.nextSince →
      sp.refresh = (s.chan c).sp.refresh ∧ sp.repeats = (s.chan c).sp.repeats ∧
        ((s.chan c).sp.superseded ≤ 65535 → sp.superseded ≤ 65535) ∧
        ((s.cfg c).shadow = true → sp.lastWord = (s.chan c).sp.lastWord) ∧
        (sp.pending.isSome = true → ((s.chan c).sp.pending.isSome = true ∧ sp.since = (s.chan c).sp.since) ∨
          ((s.cfg c).shadow = false ∧ ∃ m, m < 1 ∧ sp.since = some (s.nextSince + m))) := by
    rintro _ rfl
    unfold State.slot
    split
    · exact ⟨rfl, rfl, id, fun _ => rfl, fun hp => .inl ⟨hp, rfl⟩⟩
    · next hs =>
      refine ⟨offer_refresh_eq .., offer_repeats .., offer_superseded _ _, fun h => absurd h hs, fun _ => ?_⟩
      exact (offer_since _ _ _).imp id fun h => ⟨Bool.eq_false_iff.mpr hs, 0, Nat.one_pos, h⟩
  obtain ⟨hrefresh, hrepeats, hsuper, hword, hsince⟩ := hslot _ rfl
  refine MoveOk.keeps_after ⟨fun h => ?_, fun _ h => h, fun _ _ h => h, fun hF _ hq hcase => ?_, hsince, fun _ _ h => .inl h,
    fun _ _ _ _ => rfl⟩ (fun _ _ => rfl) (fun _ _ _ => rfl)
  · obtain ⟨hacct, ⟨href, hcount, hlatch, hstop, haux⟩, hdup, hstale, hmiss, hgap, hcad, hl, hsu, hrep, hcyc⟩ := h
    refine ⟨hacct, ⟨href, hcount, hlatch, fun ho => ?_, haux⟩, hdup, hstale, hmiss, hgap, hcad, hl, hsuper hsu, ?_, hcyc⟩
    · show _ ∧ _ ∧ _ ∧ (s.slot c .run _ s.nextSince).refresh = none
      rw [hrefresh]
      exact hstop ho
    · show (s.slot c .run _ s.nextSince).repeats ≤ 65535
      rw [hrepeats]
      exact hrep
  · obtain hne | hin | hshadow := hcase
    · exact absurd (hrun hF) hne
    · exact absurd (hidle.symm.trans hin) (by decide)
    · show (s.slot c .run _ s.nextSince).lastWord ≠ some .run
      rw [hword hshadow]
      exact hq (.inr (.inr hshadow))

/-! ### The whole evaluation (R73) -/

theorem keeps_evalProfile (hrun : F → (s.chan c).state = .running) (hidle : (s.chan c).seq.inFlight = false) (r : StepRecord)
    (d : Delivery) : Keeps F s (s.evalProfile c r d) := by
  unfold State.evalProfile
  dsimp only
  split
  · have hmove (res : CursorMove) (hkeep : Keeps F s res.after) (hland : res.after.LandedFrom s) :
        Keeps F s (res.after.modSeq c (fun q => { q with ordinal := res.ordinal, segStart := res.start })) ∧
          ((res.after.modSeq c (fun q => { q with ordinal := res.ordinal, segStart := res.start })).chan c).state =
            (s.chan c).state ∧
          ((res.after.modSeq c (fun q => { q with ordinal := res.ordinal, segStart := res.start })).chan c).seq.inFlight =
            (s.chan c).seq.inFlight := by
      refine ⟨hkeep.trans (keeps_modSeq_of_same _ id rfl), ?_, ?_⟩ <;> simp [hland.chan]
    obtain ⟨hkeep, hstate, hin⟩ := hmove _ (keeps_profileAdvance (F := F) (s.profileDesc r.b) (s.chan c).acct.ts
      (profileFuel (s.chan c).acct.ts (s.chan c).seq.segStart) s (s.chan c).seq.ordinal (s.chan c).seq.segStart)
      (profileAdvance_landed ..)
    split
    · exact hkeep.trans (keeps_stepEnd_begin (by rwa [hstate]) (hin.trans hidle) ..)
    · exact hkeep.trans (keeps_emitRun (by rwa [hstate]) (hin.trans hidle) ..)
  · exact keeps_stepEnd_begin hrun hidle ..

theorem keeps_evaluate (hrun : F → (s.chan c).state = .running) (hidle : (s.chan c).seq.inFlight = false) (d : Delivery) :
    Keeps F s (s.evaluate c d) := by
  unfold State.evaluate
  split
  · exact .refl F s
  · next r hstep =>
    have hpeak : Keeps F s (s.modSeq c (fun q => { q with peak := some (peakWith (s.chan c).seq.peak d.v), grace := false })) :=
      keeps_modSeq_of_same _ id rfl
    dsimp only
    split
    · exact hpeak.trans (keeps_fire (by simpa using hrun) (by simpa using hidle) ..)
    · split
      · exact hpeak.trans (keeps_evalProfile (by simpa using hrun) (by simpa using hidle) ..)
      all_goals exact hpeak.trans (keeps_emitRun (by simpa using hrun) (by simpa using hidle) ..)

end Sys2Proof.Proofs
end

section
/-! The two ends of a fetch access keep the invariants (R63 to R70). A live fetch that completes frees the port and does one thing
with its channel; `s` is the state before the port is free. -/

namespace Sys2Proof.Proofs

open Sys2Proof Sys2Proof.Machine

variable {F : Prop} {s : State} {c : ChanId} {o : FetchOutcome}

/-! ## The free port stands outside a move -/

theorem produceAll_setPort (s : State) (p : PortState) (c : ChanId) (l : List Body) :
    State.produceAll { s with port := p } c l = { s.produceAll c l with port := p } := by
  induction l generalizing s with
  | nil => rfl
  | cons b l ih => exact ih (s.produce c b)

theorem after_setPort (s : State) (p : PortState) (c : ChanId) (ch : Channel) (n : Nat) (l : List Body) :
    State.after { s with port := p } c ch n l = { s.after c ch n l with port := p } := by
  rw [State.after_eq, State.after_eq, produceAll_setPort]
  rfl

/-! ## A channel in flight -/

/-- What a channel with a transition in flight is (R126). -/
theorem inFlight_running {ch : Channel} (h : flightOk ch) (hin : ch.seq.inFlight = true) :
    ch.state = .running ∧ ch.seq.stepCopy = none := h.1.1 hin

/-- The transition of the live fetch ends in a program fault (R71). -/
theorem keeps_fetched_programFault (hport : s.port = .fetch c o true) (hin : F → (s.chan c).seq.inFlight = true) (f : Cause) :
    Keeps F s (State.programFault { s with port := .free } c f) := by
  rw [State.programFault_eq_after, after_setPort]
  have hoffer := Offered.slot s c (cmd := .zero) (by decide) 0
  refine MoveOk.keeps_fetched (.of_offered hoffer (fun h => ?_) (fun hF hf => ?_) (fun hF hf h => ?_) (fun hF hf ho => ?_))
    hport rfl
  · exact accountsOk_of_offered hoffer h h.1 rfl nofun rfl rfl rfl
  · obtain ⟨-, hstep⟩ := inFlight_running hf (hin hF)
    obtain ⟨-, -, ⟨hstack, -⟩, -⟩ := hf
    have hnone : (s.chan c).seq.stepCopy.isSome ≠ true := by simp [hstep]
    exact ⟨⟨nofun, fun _ => ⟨rfl, rfl, rfl⟩⟩, ⟨nofun, fun h => absurd h hnone⟩, ⟨hstack, Nat.zero_le _⟩,
      fun _ => ⟨nofun, nofun, fun h => absurd h hnone⟩, nofun⟩
  · obtain ⟨hrun, -⟩ := inFlight_running hf (hin hF)
    obtain ⟨hs, hl, hr, hz, hfault⟩ := h
    exact ⟨hs, hl, hr, fun _ => hz (by rw [hrun]; decide), FaultRecord.ok_enter hfault (entryOk_bare f) ..⟩
  · exact absurd ((inFlight_running hf (hin hF)).1.symm.trans ho) (by decide)

/-- The transition of the live fetch goes on at another position (R65). -/
theorem keeps_fetched_continueAt (hport : s.port = .fetch c o true) (hin : F → (s.chan c).seq.inFlight = true)
    (f : Sequencing → Sequencing) (hstack : (s.chan c).seq.stack.length ≤ 8 → (f (s.chan c).seq).stack.length ≤ 8)
    (hsame : f (s.chan c).seq =
      { (s.chan c).seq with
        selector := (f (s.chan c).seq).selector, index := (f (s.chan c).seq).index, cache := (f (s.chan c).seq).cache
        stack := (f (s.chan c).seq).stack }) : Keeps F s (State.continueAt { s with port := .free } c f) := by
  rw [State.continueAt_eq_after, after_setPort]
  refine MoveOk.keeps_refetched ⟨fun h => ?_, fun hF hf => ?_, fun _ _ h => h, fun _ _ h => ?_, fun h => .inl ⟨h, rfl⟩,
    fun _ _ h => .inl h, fun _ _ _ _ => rfl⟩ hport (fun _ _ h => ?_)
  · obtain ⟨ha, ht, hdup, hstale, hmiss, hgap, hcad, hl, hsu, hrep, hcyc⟩ := h
    refine ⟨ha, ht, hdup, hstale, hmiss, hgap, hcad, ?_, hsu, hrep, ?_⟩
    · show (f (s.chan c).seq).lostEval ≤ 65535
      rw [hsame]
      exact hl
    · show (f (s.chan c).seq).cycleCount ≤ Config.max32
      rw [hsame]
      exact hcyc
  · have hfly := hin hF
    obtain ⟨hrun, hstep⟩ := inFlight_running hf hfly
    obtain ⟨-, -, ⟨hst, hchain⟩, hheld, hiso⟩ := hf
    have hnot (st : ChState) (hne : st ≠ .running) : (s.chan c).state ≠ st := by
      rw [hrun]
      exact hne.symm
    have hin' : (f (s.chan c).seq).inFlight = true := by rw [hsame]; exact hfly
    have hstep' : (f (s.chan c).seq).stepCopy = none := by rw [hsame]; exact hstep
    have hchain' : (f (s.chan c).seq).chain ≤ 16 := by rw [hsame]; exact hchain
    exact ⟨⟨fun _ => ⟨hrun, hstep'⟩, fun h => absurd (hin'.symm.trans h) (by decide)⟩,
      ⟨fun _ h => absurd (hin'.symm.trans h) (by decide), fun h => absurd (show (f (s.chan c).seq).stepCopy.isSome = true from h) (by simp [hstep'])⟩, ⟨hstack hst, hchain'⟩,
      fun h => absurd h (hnot _ (by decide)), fun h => absurd h (hnot _ (by decide))⟩
  · have hsameFlight : (f (s.chan c).seq).inFlight = (s.chan c).seq.inFlight := congrArg (·.inFlight) hsame
    exact fun hcase => h (hcase.imp_right (Or.imp_left hsameFlight.symm.trans))
  · exact (congrArg (·.inFlight) hsame : (f (s.chan c).seq).inFlight = (s.chan c).seq.inFlight).trans h

/-- The END record (R70). -/
theorem keeps_fetched_doEnd (hport : s.port = .fetch c o true) (hin : F → (s.chan c).seq.inFlight = true) :
    Keeps F s (State.doEnd { s with port := .free } c) := by
  rw [State.doEnd_eq_after, after_setPort]
  refine MoveOk.keeps_fetched ⟨fun h => ?_, fun hF hf => ?_, fun hF hf h => ?_, fun hF _ h => ?_, fun h => .inl ⟨h, rfl⟩,
    fun hF hf _ => ?_, fun hF hf _ ho => ?_⟩ hport rfl
  · obtain ⟨ha, ⟨href, hcount, hlatch, -, haux⟩, hc⟩ := h
    exact ⟨ha, ⟨href, hcount, hlatch, nofun, haux⟩, hc⟩
  · obtain ⟨-, hstep⟩ := inFlight_running hf (hin hF)
    have hnone : (s.chan c).seq.stepCopy.isSome ≠ true := by simp [hstep]
    exact ⟨⟨nofun, fun _ => ⟨rfl, rfl, rfl⟩⟩, ⟨nofun, fun h => absurd h hnone⟩, ⟨Nat.zero_le _, Nat.zero_le _⟩, nofun, nofun⟩
  · exact supervisionOk_of_state h (by rw [(inFlight_running hf (hin hF)).1]; decide) rfl
  · exact fun _ => h (.inr (.inl (hin hF)))
  · exact .inl (by
      show (s.chan c).state ≠ .off
      rw [(inFlight_running hf (hin hF)).1]
      decide)
  · exact absurd ((inFlight_running hf (hin hF)).1.symm.trans ho) (by decide)

/-- A drive record met with hold-pending set (R65). -/
theorem keeps_fetched_holdAtDrive (hport : s.port = .fetch c o true) (hin : F → (s.chan c).seq.inFlight = true)
    (k : HoldKind) : Keeps F s (State.holdAtDrive { s with port := .free } c k) := by
  rw [State.holdAtDrive_eq_after, after_setPort]
  have hoffer := Offered.slot s c (cmd := .zero) (by decide) 0
  refine MoveOk.keeps_fetched (.of_offered hoffer (fun h => ?_) (fun hF hf => ?_) (fun hF hf h => ?_) (fun hF hf ho => ?_))
    hport rfl
  · exact accountsOk_of_offered hoffer h h.1 rfl nofun rfl rfl rfl
  · obtain ⟨-, -, ⟨hstack, -⟩, -⟩ := hf
    exact ⟨⟨nofun, fun _ => ⟨rfl, rfl, rfl⟩⟩, ⟨nofun, nofun⟩, ⟨hstack, Nat.zero_le _⟩, fun _ => ⟨nofun, nofun, nofun⟩, nofun⟩
  · exact supervisionOk_of_state h (by rw [(inFlight_running hf (hin hF)).1]; decide) rfl
  · exact absurd ((inFlight_running hf (hin hF)).1.symm.trans ho) (by decide)

/-- The channel whose transition completes with a drive record (R65, R86). -/
def stepBegun (r : StepRecord) (ch : Channel) : Channel :=
  { ch with
    seq := { ch.seq with
      stepCopy := some r, peak := none, ordinal := 0, segStart := 0, phase := .cc, chain := 0, inFlight := false,
      pendingEval := none }
    sp := { ch.sp with regulator := startR r } }

theorem beginStep_eq (s : State) (c : ChanId) (r : StepRecord) :
    s.beginStep c r =
      match (s.chan c).seq.pendingEval with
      | some d => (s.modChan c (stepBegun r)).evaluate c d
      | none => s.modChan c (stepBegun r) := rfl

/-- A drive record of the live fetch begins its step, which the position's index admits (R59, R64, R65). -/
theorem keeps_fetched_stepBegun (hport : s.port = .fetch c o true) (hin : F → (s.chan c).seq.inFlight = true)
    (hinside : F → (s.chan c).seq.indexInside = true) (hhold : (s.chan c).seq.holdPending = none) (r : StepRecord) :
    Keeps F s (State.modChan { s with port := .free } c (stepBegun r)) := by
  rw [State.modChan_eq_after, after_setPort]
  refine MoveOk.keeps_fetched ⟨fun h => h, fun hF hf => ?_, fun _ _ h => h, fun hF _ h _ => ?_, fun h => .inl ⟨h, rfl⟩,
    fun _ _ h => .inl h, fun _ _ _ _ => rfl⟩ hport rfl
  · obtain ⟨hrun, -⟩ := inFlight_running hf (hin hF)
    obtain ⟨-, -, ⟨hstack, -⟩, -, -⟩ := hf
    exact ⟨⟨nofun, fun _ => ⟨hhold, rfl, rfl⟩⟩, ⟨fun _ _ => rfl, fun _ => ⟨.inl hrun, hinside hF⟩⟩, ⟨hstack, Nat.zero_le _⟩,
      fun h => absurd (hrun.symm.trans h) (by decide), fun h => absurd (hrun.symm.trans h) (by decide)⟩
  · exact h (.inr (.inl (hin hF)))

theorem keeps_fetched_beginStep (hport : s.port = .fetch c o true) (hin : F → (s.chan c).seq.inFlight = true)
    (hrun : F → (s.chan c).state = .running) (hinside : F → (s.chan c).seq.indexInside = true)
    (hhold : (s.chan c).seq.holdPending = none) (r : StepRecord) :
    Keeps F s (State.beginStep { s with port := .free } c r) := by
  have hbegun := keeps_fetched_stepBegun hport hin hinside hhold r
  rw [beginStep_eq]
  split
  · exact hbegun.trans (keeps_evaluate (by rw [State.modChan_chan, if_pos rfl]; exact hrun) (by simp [stepBegun]) _)
  · exact hbegun

/-- A sticky flag of the stack is set before the fault (R57). -/
theorem keeps_fetched_flag_programFault (hport : s.port = .fetch c o true) (hin : F → (s.chan c).seq.inFlight = true)
    (f : Sequencing → Sequencing) (hkeep : Keeps F s (s.modSeq c f))
    (hflight : (f (s.chan c).seq).inFlight = (s.chan c).seq.inFlight) (k : Cause) :
    Keeps F s ((State.modSeq { s with port := .free } c f).programFault c k) := by
  refine hkeep.trans (keeps_fetched_programFault (s := s.modSeq c f) hport (fun hF => ?_) k)
  simpa [hflight] using hin hF

theorem keeps_fetched_doLoop (hport : s.port = .fetch c o true) (hin : F → (s.chan c).seq.inFlight = true) (r : StepRecord) :
    Keeps F s (State.doLoop { s with port := .free } c r) := by
  unfold State.doLoop
  dsimp only
  split
  · exact keeps_fetched_programFault hport hin _
  · split
    · exact keeps_fetched_programFault hport hin _
    · split
      · exact keeps_fetched_continueAt hport hin _ id rfl
      · split
        · exact keeps_fetched_flag_programFault hport hin _ (keeps_modSeq_of_same _ id rfl) rfl _
        · next hroom =>
          refine keeps_fetched_continueAt hport hin _ (fun _ => ?_) rfl
          exact Nat.lt_of_not_le hroom

theorem satAdd_le (top a b : Nat) : satAdd top a b ≤ top := Nat.min_le_left ..

/-- The count of a cycle, its record and the reset of the cycle accumulators touch nothing of the transition. -/
theorem keeps_countCycle (hon : F → flightOk (s.chan c) → (s.chan c).state ≠ .off) : Keeps F s (s.countCycle c) := by
  unfold State.countCycle
  refine (Keeps.trans ?_ (keeps_produce _ ?_)).trans (keeps_modAcct _ resetCycle_inRange)
  · exact keeps_modSeq_of_same _ (fun h => ⟨h.1, satAdd_le ..⟩) rfl
  · intro hF hf _
    simpa using hon hF (by simpa using hf)

theorem setPort_ite_countCycle (s : State) (p : PortState) (c : ChanId) (b : Bool) :
    (if b then State.countCycle { s with port := p } c else { s with port := p }) =
      { (if b then s.countCycle c else s) with port := p } := by
  cases b <;> rfl

theorem keeps_fetched_doEndloop (hport : s.port = .fetch c o true) (hin : F → (s.chan c).seq.inFlight = true) :
    Keeps F s (State.doEndloop { s with port := .free } c) := by
  unfold State.doEndloop
  dsimp only
  split
  · next start finish remaining cycle rest hstack =>
    have hlen : rest.length + 1 = (s.chan c).seq.stack.length :=
      (congrArg List.length (show (s.chan c).seq.stack = _ from hstack)).symm
    split
    · rw [setPort_ite_countCycle]
      have hcounted : Keeps F s (if cycle then s.countCycle c else s) := by
        split
        · exact keeps_countCycle fun hF hf ho => absurd ((inFlight_running hf (hin hF)).1.symm.trans ho) (by decide)
        · exact .refl F s
      have hsame : ((if cycle then s.countCycle c else s).chan c).seq.inFlight = (s.chan c).seq.inFlight ∧
          ((if cycle then s.countCycle c else s).chan c).seq.stack = (s.chan c).seq.stack := by
        split
        · simp [State.countCycle_eq_after s c _ rfl]
        · exact ⟨rfl, rfl⟩
      have hsamePort : (if cycle then s.countCycle c else s).port = .fetch c o true := by
        split <;> exact hport
      obtain ⟨hqin, hqstack⟩ := hsame
      split <;>
        refine hcounted.trans (keeps_fetched_continueAt hsamePort (by rwa [hqin]) _ (fun h => ?_) rfl) <;>
        rw [hqstack] at h
      · exact hlen.trans_le h
      · exact (Nat.le_succ _).trans (hlen.trans_le h)
    · exact keeps_fetched_programFault hport hin _
  · exact keeps_fetched_programFault hport hin _
  · exact keeps_fetched_programFault hport hin _

theorem keeps_fetched_doCall (hport : s.port = .fetch c o true) (hin : F → (s.chan c).seq.inFlight = true) (r : StepRecord) :
    Keeps F s (State.doCall { s with port := .free } c r) := by
  unfold State.doCall
  dsimp only
  split
  · split
    · exact keeps_fetched_flag_programFault hport hin _ (keeps_modSeq_of_same _ id rfl) rfl _
    · next hroom => exact keeps_fetched_continueAt hport hin _ (fun _ => Nat.lt_of_not_le hroom) rfl
  · exact keeps_fetched_programFault hport hin _

theorem topCall_length {l rest : List StackFrame} {sel idx : Nat} (h : topCall l = some (sel, idx, rest)) :
    rest.length ≤ l.length := by
  induction l with
  | nil => cases h
  | cons f l ih =>
    cases f with
    | loopFrame => exact (ih h).trans (Nat.le_succ _)
    | callFrame =>
      cases h
      exact Nat.le_succ _

theorem keeps_fetched_doReturn (hport : s.port = .fetch c o true) (hin : F → (s.chan c).seq.inFlight = true) :
    Keeps F s (State.doReturn { s with port := .free } c) := by
  unfold State.doReturn
  split
  · exact keeps_fetched_flag_programFault hport hin _ (keeps_modSeq_of_same _ id rfl) rfl _
  · next sel idx rest htop =>
    split
    · exact keeps_fetched_continueAt hport hin _ (topCall_length htop).trans rfl
    · exact keeps_fetched_programFault hport hin _

theorem keeps_fetched_doDrive (hport : s.port = .fetch c o true) (hin : F → (s.chan c).seq.inFlight = true)
    (hrun : F → (s.chan c).state = .running) (hinside : F → (s.chan c).seq.indexInside = true) (r : StepRecord) :
    Keeps F s (State.doDrive { s with port := .free } c r) := by
  unfold State.doDrive
  split
  · split
    · next hhold => exact keeps_fetched_beginStep hport hin hrun hinside hhold r
    · exact keeps_fetched_holdAtDrive hport hin _
  · exact keeps_fetched_programFault hport hin _

theorem keeps_fetched_processRecord (hport : s.port = .fetch c o true) (hin : F → (s.chan c).seq.inFlight = true)
    (hrun : F → (s.chan c).state = .running) (hinside : F → (s.chan c).seq.indexInside = true) (r : StepRecord) :
    Keeps F s (State.processRecord { s with port := .free } c r) := by
  unfold State.processRecord
  cases r.op with
  | invalid => exact keeps_fetched_programFault hport hin _
  | loop => exact keeps_fetched_doLoop hport hin r
  | endloop => exact keeps_fetched_doEndloop hport hin
  | call => exact keeps_fetched_doCall hport hin r
  | ret => exact keeps_fetched_doReturn hport hin
  | endProgram => exact keeps_fetched_doEnd hport hin
  | rest | cc | cp | cccv | profile => exact keeps_fetched_doDrive hport hin hrun hinside r

/-- A completed fetch (R64): what its liveness says of the channel comes from the flights of the state it completes in. -/
theorem keeps_completeFetch (s : State) : Keeps F s s.completeFetch := by
  unfold State.completeFetch
  split
  · next c o live hport =>
    split
    · next hlive =>
      subst hlive
      refine Keeps.of_flights ?_
      have hin : s.flightsOk → (s.chan c).seq.inFlight = true := fun hs =>
        (hs.1.2 c).1.mpr (.inr ((fetchesFor_iff _ _).mpr ⟨o, hport⟩))
      have hrun : s.flightsOk → (s.chan c).state = .running := fun hs => (inFlight_running (hs.2.2 c) (hin hs)).1
      cases o with
      | chain | bound => exact keeps_fetched_programFault hport hin _
      | read i =>
        exact keeps_fetched_processRecord hport hin hrun (fun hs => (portOk_iff s).mp hs.2.1 c i hport) _
    · next hdead =>
      refine SameChannels.keeps ⟨rfl, rfl, fun x k => ?_, rfl, rfl, rfl, id, rfl⟩ (fun h => ?_) id id
      · rw [hport]
        simp [hdead]
      · obtain ⟨hq, hw, hbook, hreset, -, hmark⟩ := h
        exact ⟨hq, hw, hbook, hreset, nofun, hmark⟩
  · exact .refl F s
  · exact .refl F s

end Sys2Proof.Proofs
end

section
/-! The start of a fetch, the accounting of a delivery and the supervisor keep the invariants. -/

namespace Sys2Proof.Proofs

open Sys2Proof Sys2Proof.Machine

variable {F : Prop} {s : State} {c : ChanId}

/-! ## The start of a fetch (R63, R64) -/

theorem fetchChain_le {q : Sequencing} (h : q.chain ≤ 16) : fetchChain q ≤ 16 := by
  unfold fetchChain fetchOutcome
  split
  · next heq =>
    split at heq
    · cases heq
    · next hroom => exact Nat.lt_of_not_le hroom
  all_goals exact h

theorem indexInside_of_read {q : Sequencing} {i : Nat} (h : fetchOutcome q = .read i) : q.indexInside = true := by
  unfold fetchOutcome at h
  split at h
  · cases h
  · split at h
    · split at h
      · cases h
      · next hcache hlt => simpa [Sequencing.indexInside, hcache] using hlt
    · cases h

theorem keeps_startFetch (hfree : s.port = .free) : Keeps F s s.startFetch := by
  refine Keeps.of_flights ?_
  unfold State.startFetch
  split
  · exact .refl _ s
  · next c rest hq =>
    have hin : s.flightsOk → (s.chan c).seq.inFlight = true := fun hs => (hs.1.2 c).1.mpr (.inl (by simp [hq]))
    have hmove : MoveOk s.flightsOk s c
        { s.chan c with seq := { (s.chan c).seq with chain := fetchChain (s.chan c).seq } } 0 [] := by
      refine ⟨fun h => h, fun hs hf => ?_, fun _ _ h => h, fun _ _ h => h, fun h => .inl ⟨h, rfl⟩, fun _ _ h => .inl h,
        fun _ _ _ _ => rfl⟩
      obtain ⟨⟨hfly, -⟩, hstep, ⟨hstack, hchain⟩, hres⟩ := hf
      exact ⟨⟨hfly, fun h => absurd ((hin hs).symm.trans h) (by decide)⟩, hstep, ⟨hstack, fetchChain_le hchain⟩, hres⟩
    have hkeep := hmove.keeps (q := rest) (p := .fetch c (fetchOutcome (s.chan c).seq) true) nofun ?_
    · rw [moved, ← State.setChan_eq_after] at hkeep
      exact hkeep.trans (SameChannels.keeps ⟨rfl, rfl, fun _ _ => Iff.rfl, rfl, rfl, rfl, id, rfl⟩
        (fun ⟨hb, hw, hbook, hreset, _, hmark⟩ => ⟨hb, hw, hbook, hreset, nofun, hmark⟩) id id)
    · intro hs _
      have hfly := hin hs
      obtain ⟨⟨hnodup, hmem⟩, -, -⟩ := hs
      rw [hq] at hnodup
      obtain ⟨hnot, hrest⟩ := List.nodup_cons.mp hnodup
      refine ⟨⟨hrest, fun x => ?_⟩, (portOk_iff _).mpr fun x i hp => ?_⟩
      · have := hmem x
        rw [moved_chan]
        by_cases hx : x = c
        · subst hx
          simpa [hnot] using hfly
        · simpa [hx, hq, hfree, Ne.symm hx] using this
      · simp only [PortState.fetch.injEq] at hp
        obtain ⟨rfl, hread, -⟩ := hp
        rw [moved_chan_self]
        exact indexInside_of_read (q := (s.chan c).seq) hread

theorem keeps_portDue (s : State) : Keeps F s s.portDue := by
  unfold State.portDue
  split
  · next h =>
    refine keeps_startFetch ?_
    unfold State.dueAccess at h
    split at h
    · next hfree =>
      rw [Bool.and_eq_true, beq_iff_eq] at hfree
      exact hfree.2
    · cases h
  · next h => exact keeps_startAccess h
  · exact .refl F s

/-! ## The accounting of a delivery (R22 to R28) -/

theorem satSigned_natAbs_le (x : Int) : (satSigned x).natAbs ≤ Config.max47 := by
  unfold satSigned
  omega

theorem addStep_inRange {a : Accounts} (h : a.inRange) (q d : Int) (n : Nat) : (a.addStep q d n).inRange := by
  obtain ⟨-, -, -, hrest⟩ := h
  exact ⟨satSigned_natAbs_le _, satSigned_natAbs_le _, satAdd_le .., hrest⟩

theorem addCycle_inRange {a : Accounts} (h : a.inRange) (q d : Int) (n : Nat) : (a.addCycle q d n).inRange := by
  obtain ⟨hqs, hes, hts, -, -, -, -, -, hrest⟩ := h
  exact ⟨hqs, hes, hts, satAdd_le .., satAdd_le .., satAdd_le .., satAdd_le .., satAdd_le .., hrest⟩

theorem addLife_inRange {a : Accounts} (h : a.inRange) (q d : Int) : (a.addLife q d).inRange := by
  obtain ⟨hqs, hes, hts, hqi, hqo, hei, heo, htc, -, -, -, -, hres⟩ := h
  exact ⟨hqs, hes, hts, hqi, hqo, hei, heo, htc, satAdd_le .., satAdd_le .., satAdd_le .., satAdd_le .., hres⟩

/-- What the whole millijoules leave of a sum is below one millijoule (R23). -/
theorem residue_lt (x : Int) : (x - wholeMJ x * Config.nJperMJ).natAbs < 1000000 := by
  have hmod : x - wholeMJ x * Config.nJperMJ = x.tmod Config.nJperMJ := by
    rw [Int.tmod_def, wholeMJ, Int.mul_comm]
  rw [hmod, Int.natAbs_tmod]
  exact Nat.mod_lt _ (by decide)

theorem addResidue_inRange {a : Accounts} (h : a.inRange) (e : Int) : (a.addResidue e).inRange := by
  obtain ⟨hqs, hes, hts, hqi, hqo, hei, heo, htc, hqli, hqlo, heli, helo, -⟩ := h
  exact ⟨hqs, hes, hts, hqi, hqo, hei, heo, htc, hqli, hqlo, heli, helo, residue_lt _⟩

theorem account_inRange {a : Accounts} (h : a.inRange) (st : ChState) (d : Delivery) (period : Nat) :
    (a.account st d period).inRange := by
  unfold Accounts.account
  cases st with
  | off => exact h
  | running => exact addResidue_inRange (addLife_inRange (addCycle_inRange (addStep_inRange h ..) ..) ..) _
  | held | complete | isolated => exact addResidue_inRange (addLife_inRange h ..) _

theorem keeps_accountDelivery (s : State) (c : ChanId) (d : Delivery) : Keeps F s (s.accountDelivery c d) :=
  keeps_modAcct _ fun h => account_inRange h ..

/-! ## The supervisor (Section 6) -/

theorem keeps_setScore {n : Nat} (hn : n ≤ 255) (hon : (s.chan c).state ≠ .off) : Keeps F s (s.setScore c n) := by
  rw [State.setScore_eq_after]
  refine MoveOk.keeps_after ⟨fun h => h, fun _ h => h, fun _ _ h => ?_, fun _ _ h => h, fun h => .inl ⟨h, rfl⟩,
    fun _ _ h => .inl h, fun _ _ _ ho => absurd ho hon⟩ (fun _ _ => rfl) (fun _ _ _ => rfl)
  obtain ⟨-, -, hrec⟩ := h
  exact ⟨hn, rfl, hrec⟩

theorem scoreAfter_le {score : Nat} (h : score ≤ 255) (soft : Nat) (hard : Bool) : scoreAfter score soft hard ≤ 255 := by
  unfold scoreAfter Config.scoreMax
  split
  · omega
  · split <;> omega

theorem tripState_cases (s : State) (c : ChanId) : s.tripState c = .held ∨ s.tripState c = .isolated := by
  unfold State.tripState
  split <;> simp

theorem keeps_trip (hon : (s.chan c).state ≠ .off) {e : FaultEntry} (he : entryOk e) (r : Reason) :
    Keeps F s (s.trip c e r) := by
  rw [State.trip_eq_after]
  have hoffer := Offered.slot s c (cmd := .openPath) (by decide) 0
  have hstate := tripState_cases s c
  refine MoveOk.keeps_leave (.of_offered hoffer (fun h => ?_) (fun _ hf => ?_) (fun _ _ h => ?_) (fun _ _ => hon)) rfl
  · exact accountsOk_of_offered hoffer h h.1 rfl (fun ho => by simp_all [State.tripped]) rfl rfl rfl
  · obtain ⟨-, -, ⟨hstack, -⟩, -⟩ := hf
    refine ⟨⟨nofun, fun _ => ⟨rfl, rfl, rfl⟩⟩, ⟨fun hrun => ?_, nofun⟩, ⟨hstack, Nat.zero_le _⟩,
      fun _ => ⟨nofun, nofun, nofun⟩, fun _ => rfl⟩
    have hrun' : s.tripState c = .running := hrun
    simp [hrun'] at hstate
  · exact supervisionOk_entered rfl rfl (Nat.zero_lt_succ 63) (fun _ => rfl) he rfl h

theorem keeps_recordOnly (hon : (s.chan c).state ≠ .off) {e : FaultEntry} (he : entryOk e) :
    Keeps F s (s.recordOnly c e) := by
  rw [State.recordOnly_eq_after]
  refine MoveOk.keeps_after ⟨fun h => h, fun _ h => h, fun _ _ h => ?_, fun _ _ h => h, fun h => .inl ⟨h, rfl⟩,
    fun _ _ h => .inl h, fun _ _ _ ho => absurd ho hon⟩ (fun _ _ => rfl) (fun _ _ _ => rfl)
  obtain ⟨-, -, hrec, hzero, -⟩ := id h
  exact supervisionOk_entered rfl rfl hrec hzero he rfl h

theorem keeps_isolatedFault {e : FaultEntry} (he : entryOk e) : Keeps F s (s.isolatedFault c e) := by
  rw [State.isolatedFault_eq_after]
  exact MoveOk.keeps_after ⟨fun h => h, fun _ h => h,
    fun _ _ h => supervisionOk_entered rfl rfl (Nat.zero_lt_succ 63) (fun _ => rfl) he rfl h, fun _ _ h => h, fun h => .inl ⟨h, rfl⟩,
    fun _ _ h => .inl h, fun _ _ _ _ => rfl⟩ (fun _ _ => rfl) (fun _ _ _ => rfl)

/-- The recovery count starts again. -/
theorem keeps_restartRecovery (s : State) (c : ChanId) : Keeps F s (s.modSup c (fun u => { u with recovery := 0 })) :=
  keeps_modSup _ fun _ ⟨hs, hl, _, _, hf⟩ => ⟨hs, hl, Nat.zero_lt_succ 63, fun _ => rfl, hf⟩

/-- Outside RUNNING no transition is in flight. -/
theorem idle_of_not_running {ch : Channel} (h : flightOk ch) (hne : ch.state ≠ .running) : ch.seq.inFlight = false :=
  Bool.eq_false_iff.mpr fun hin => hne (inFlight_running h hin).1

theorem keeps_recover (hiso : (s.chan c).state = .isolated) : Keeps F s (s.recover c) := by
  have hidle : flightOk (s.chan c) → (s.chan c).seq.inFlight = false := fun hf =>
    idle_of_not_running hf (by rw [hiso]; decide)
  have hon : (s.chan c).state ≠ .off := by rw [hiso]; decide
  rw [State.recover_eq_after s c _ rfl]
  split
  · have hoffer := Offered.slot s c (cmd := .zero) (by decide) 0
    refine MoveOk.keeps_begin (.of_offered hoffer (fun h => ?_) (fun _ hf => ?_) (fun _ _ h => ?_) (fun _ _ => hon))
      (fun _ => hidle) rfl
    · exact accountsOk_of_offered hoffer h (resetStep_inRange h.1) rfl nofun rfl rfl rfl
    · refine flightOk_begun ?_ ?_ _ _ _
      · rfl
      · exact hf.2.2.1.1
    · exact ⟨Nat.zero_le _, rfl, Nat.zero_lt_succ 63, fun _ => rfl, h.2.2.2.2⟩
  · refine MoveOk.keeps_after ⟨fun h => ?_, fun _ hf => ?_, fun _ _ h => ?_, fun _ _ h _ => ?_, fun h => .inl ⟨h, rfl⟩,
      fun _ _ _ => .inl hon, fun _ _ _ ho => absurd ho hon⟩ (fun _ _ => rfl) (fun _ _ _ => rfl)
    · obtain ⟨ha, ⟨href, hcount, hlatch, -, haux⟩, hc⟩ := h
      exact ⟨ha, ⟨href, hcount, hlatch, nofun, haux⟩, hc⟩
    · have hin := hidle hf
      obtain ⟨⟨-, hclear⟩, ⟨-, hcopy⟩, hstack, -, hres⟩ := hf
      have hnone : (s.chan c).seq.stepCopy.isSome ≠ true := fun h => by simpa [hiso] using (hcopy h).1
      have hresume := hres hiso
      exact ⟨⟨fun h => absurd (hin.symm.trans h) (by decide), fun _ => hclear hin⟩,
        ⟨nofun, fun h => absurd h hnone⟩, hstack,
        fun _ => ⟨fun h => absurd (hresume.symm.trans h) (by decide), fun h => absurd (hresume.symm.trans h) (by decide),
          fun h => absurd h hnone⟩, nofun⟩
    · exact ⟨Nat.zero_le _, rfl, Nat.zero_lt_succ 63, fun _ => rfl, h.2.2.2.2⟩
    · exact h (.inl (by rw [hiso]; decide))

theorem keeps_countClean (hiso : (s.chan c).state = .isolated) : Keeps F s (s.countClean c) := by
  unfold State.countClean
  split
  · split
    · exact keeps_recover hiso
    · next hlt =>
      refine keeps_modSup _ fun _ ⟨hs, hl, _, _, hf⟩ => ⟨hs, hl, Nat.lt_of_not_le hlt, fun h => absurd hiso h, hf⟩
  all_goals exact .refl F s

theorem keeps_faultIn {e : FaultEntry} (he : entryOk e) : Keeps F s (s.faultIn c e) := by
  unfold State.faultIn
  split
  · next h => exact keeps_trip (by rw [h]; decide) he _
  · next h => exact keeps_recordOnly (by rw [h]; decide) he
  · next h => exact keeps_recordOnly (by rw [h]; decide) he
  all_goals exact .refl F s

end Sys2Proof.Proofs
end

section
/-! A delivery, the acceptance unit and the channels' timers keep the invariants. -/

namespace Sys2Proof.Proofs

open Sys2Proof Sys2Proof.Machine

variable {F : Prop} {s : State} {c : ChanId}

/-! ## The supervisor and the sequencer take a delivery -/

theorem setScore_chan_state (s : State) (c : ChanId) (n : Nat) : ((s.setScore c n).chan c).state = (s.chan c).state := by
  rw [State.setScore_eq_after, State.after_chan_self]

/-- The part of a score update in an invariant: the supervision of the channel says that the score is at most 255. -/
theorem keeps_scoreAfter (hon : (s.chan c).state ≠ .off) (soft : Nat) (hard : Bool) :
    Keeps F s (s.setScore c (scoreAfter (s.chan c).sup.score soft hard)) := by
  by_cases hscore : (s.chan c).sup.score ≤ 255
  · exact keeps_setScore (scoreAfter_le hscore soft hard) hon
  · rw [State.setScore_eq_after]
    exact MoveOk.keeps_after ⟨fun h => h, fun _ h => h, fun _ _ h => absurd h.1 hscore, fun _ _ h => h,
      fun h => .inl ⟨h, rfl⟩, fun _ _ h => .inl h, fun _ _ _ ho => absurd ho hon⟩ (fun _ _ => rfl) (fun _ _ _ => rfl)

theorem keeps_supervise (s : State) (c : ChanId) (d : Delivery) : Keeps F s (s.supervise c d) := by
  have hentry (lead : Cause) (others : List Cause) : entryOk (deliveryEntry (s.limits c) d lead others) := nofun
  have hscored (hon : (s.chan c).state ≠ .off) (raised : List Cause) :
      Keeps F s
        (match raised with
        | h :: t =>
          (s.setScore c (scoreAfter (s.chan c).sup.score (softCount (s.limits c) d) !(hardKinds (s.limits c) d).isEmpty)).faultIn
            c (deliveryEntry (s.limits c) d h t)
        | [] => s.setScore c (scoreAfter (s.chan c).sup.score (softCount (s.limits c) d) !(hardKinds (s.limits c) d).isEmpty)) := by
    cases raised with
    | nil => exact keeps_scoreAfter hon _ _
    | cons h t => exact (keeps_scoreAfter hon _ _).trans (keeps_faultIn (hentry h t))
  unfold State.supervise
  dsimp only
  split
  · exact .refl F s
  · next hiso =>
    split
    · exact keeps_isolatedFault (hentry _ _)
    · split
      · exact keeps_restartRecovery s c
      · exact keeps_countClean hiso
  · next h => exact hscored (by rw [h]; decide) _
  · next h => exact hscored (by rw [h]; decide) _
  · next h => exact hscored (by rw [h]; decide) _

theorem keeps_plausibility (s : State) (c : ChanId) : Keeps F s (s.plausibility c) := by
  have hscored (hon : (s.chan c).state ≠ .off) :
      Keeps F s
        (if scoreRaised (s.chan c).sup.score 1 then
          (s.setScore c (scoreAfter (s.chan c).sup.score 1 false)).faultIn c (FaultEntry.bare .score)
        else s.setScore c (scoreAfter (s.chan c).sup.score 1 false)) := by
    split
    · exact (keeps_scoreAfter hon _ _).trans (keeps_faultIn (entryOk_bare _))
    · exact keeps_scoreAfter hon _ _
  unfold State.plausibility
  dsimp only
  split
  · exact .refl F s
  · exact keeps_restartRecovery s c
  · next h => exact hscored (by rw [h]; decide)
  · next h => exact hscored (by rw [h]; decide)
  · next h => exact hscored (by rw [h]; decide)

theorem keeps_silenceEvent (s : State) (c : ChanId) : Keeps F s (s.silenceEvent c) := by
  unfold State.silenceEvent
  split
  · exact .refl F s
  · next h => exact keeps_trip (by rw [h]; decide) (entryOk_bare _) _
  · next h => exact keeps_recordOnly (by rw [h]; decide) (entryOk_bare _)
  · next h => exact keeps_recordOnly (by rw [h]; decide) (entryOk_bare _)
  · exact keeps_isolatedFault (entryOk_bare _)

theorem keeps_estopChannel (s : State) (c : ChanId) : Keeps F s (s.estopChannel c) := by
  unfold State.estopChannel
  split
  · exact .refl F s
  · next h => exact keeps_trip (by rw [h]; decide) (entryOk_bare _) _
  · next h => exact keeps_trip (by rw [h]; decide) (entryOk_bare _) _
  · next h => exact keeps_trip (by rw [h]; decide) (entryOk_bare _) _
  · next h =>
    refine (keeps_isolatedFault (entryOk_bare _)).trans (keeps_produce _ fun _ _ _ => ?_)
    rw [State.isolatedFault_eq_after, State.after_chan_self]
    simp [h]

theorem keeps_sequence (s : State) (c : ChanId) (d : Delivery) : Keeps F s (s.sequence c d) := by
  unfold State.sequence
  split
  · next hrun =>
    split
    · next hin =>
      refine keeps_modSeq _ (fun ⟨hlost, hcycle⟩ => ⟨?_, hcycle⟩) (fun _ hf => ?_) rfl (fun _ _ _ => rfl)
      · dsimp only
        split
        · exact bump_le _
        · exact hlost
      · obtain ⟨⟨hfly, -⟩, hrest⟩ := hf
        exact ⟨⟨hfly, fun h => absurd (hin.symm.trans h) (by decide)⟩, hrest⟩
    · next hidle => exact keeps_evaluate (fun _ => hrun) (Bool.eq_false_iff.mpr hidle) d
  all_goals exact .refl F s

theorem keeps_deliver (s : State) (c : ChanId) (d : Delivery) : Keeps F s (s.deliver c d) :=
  ((keeps_accountDelivery s c d).trans (keeps_supervise _ c d)).trans (keeps_sequence _ c d)

/-! ## The acceptance unit (Section 1) -/

/-- The stuck comparison keeps the count in its range and the latch set exactly at 32 (R14, R15). -/
theorem stuckStep_ok {t : Tracking} (hcount : t.stuckCount ≤ 32) (hlatch : t.stuckLatch = true ↔ t.stuckCount = 32) (v : Nat)
    (i : Int) :
    (stuckStep t v i).1 ≤ 32 ∧ ((stuckStep t v i).2.1 = true ↔ (stuckStep t v i).1 = 32) := by
  obtain ⟨same, hstep⟩ : ∃ same : Bool, stuckStep t v i =
      if t.stuckLatch then (if same then (t.stuckCount, true, false) else (0, false, false))
      else if same && decide (Config.stuckCurrent ≤ i.natAbs) then
        (if t.stuckCount + 1 = 32 then (32, true, true) else (t.stuckCount + 1, false, false))
      else (0, false, false) := ⟨_, rfl⟩
  rw [hstep]
  split
  · next h =>
    split
    · exact ⟨hcount, by simpa [h] using hlatch⟩
    · simp
  · next h =>
    have hlt : t.stuckCount ≠ 32 := fun he => h (hlatch.mpr he)
    split
    · split
      · simp
      · simp only [Bool.false_eq_true, false_iff]
        omega
    · simp

theorem ite_bump_le (b : Bool) {n : Nat} (h : n ≤ 65535) : (if b then bump n else n) ≤ 65535 := by
  split
  · exact bump_le n
  · exact h

theorem keeps_acceptReference (s : State) (c : ChanId) (f : SampleFields) : Keeps F s (s.acceptReference c f) := by
  unfold State.acceptReference
  refine (keeps_modTrack _ fun ⟨ha, ⟨_, hcount, hlatch, hstop, haux⟩, hc⟩ => ?_).trans (keeps_deliver _ c _)
  refine ⟨ha, ⟨rfl, hcount, hlatch, fun ho => ?_, haux⟩, hc⟩
  have ho' : (s.chan c).state = .off := ho
  simpa [Tracking.accept, ho'] using hstop ho'

theorem keeps_acceptSample (s : State) (c : ChanId) (f : SampleFields) (span unclamped : Nat) (gap : Bool) :
    Keeps F s (s.acceptSample c f span unclamped gap) := by
  unfold State.acceptSample
  refine (keeps_modTrack _ fun ⟨ha, ⟨_, hcount, hlatch, hstop, haux⟩, hc⟩ => ?_).trans (keeps_deliver _ c _)
  obtain ⟨hdup, hstale, hmiss, hgap, hcad, hrest⟩ := hc
  have hstuck := stuckStep_ok hcount hlatch f.v f.i
  refine ⟨ha, ⟨rfl, ?_, ?_, fun ho => ?_, haux⟩, hdup, hstale, satAdd_le .., ?_, ?_, hrest⟩
  · dsimp only
    split
    · exact hcount
    · exact hstuck.1
  · dsimp only
    split
    · exact hlatch
    · exact hstuck.2
  · have ho' : (s.chan c).state = .off := ho
    simpa [Tracking.accept, ho'] using hstop ho'
  · exact ite_bump_le _ hgap
  · exact ite_bump_le _ hcad

theorem keeps_primaryFrame (s : State) (c : ChanId) (f : SampleFields) : Keeps F s (s.primaryFrame c f) := by
  unfold State.primaryFrame
  split
  · exact keeps_acceptReference s c f
  · exact keeps_modTrack _ fun ⟨ha, ht, _, hc⟩ => ⟨ha, ht, bump_le _, hc⟩
  · exact keeps_modTrack _ fun ⟨ha, ht, hdup, _, hc⟩ => ⟨ha, ht, hdup, bump_le _, hc⟩
  · exact keeps_acceptSample s c f _ _ _

theorem keeps_auxFrame (s : State) (c : ChanId) (f : SampleFields) : Keeps F s (s.auxFrame c f) := by
  unfold State.auxFrame
  split
  · exact .refl F s
  · exact keeps_modTrack _ fun ⟨ha, ⟨href, hcount, hlatch, hstop, _, _⟩, hc⟩ =>
      ⟨ha, ⟨href, hcount, hlatch, hstop, nofun, rfl⟩, hc⟩

theorem keeps_checkFrame (s : State) (c : ChanId) (f : SampleFields) : Keeps F s (s.checkFrame c f) := by
  unfold State.checkFrame
  split
  · exact .refl F s
  · split
    · exact keeps_plausibility s c
    · exact .refl F s

theorem keeps_useClaimed (s : State) (e : AcceptEntry) (f : SampleFields) : Keeps F s (s.useClaimed e f) := by
  unfold State.useClaimed
  split
  · split
    · exact keeps_primaryFrame s _ f
    · exact keeps_auxFrame s _ f
    · exact keeps_checkFrame s _ f
  · exact .refl F s

end Sys2Proof.Proofs
end

section
/-! The channels' timers, the links and the transmitters keep the invariants. -/

namespace Sys2Proof.Proofs

open Sys2Proof Sys2Proof.Machine

variable {F : Prop} {s t : State} {c : ChanId}

/-! ## Timers (R12, R18, R97) -/

theorem keeps_silenceExpire (s : State) (c : ChanId) : Keeps F s (s.silenceExpire c) := by
  unfold State.silenceExpire
  split
  · refine (keeps_modTrack _ fun ⟨ha, ⟨_, hcount, hlatch, hstop, haux⟩, hc⟩ => ?_).trans (keeps_silenceEvent _ c)
    refine ⟨ha, ⟨rfl, hcount, hlatch, fun ho => ?_, haux⟩, hc⟩
    obtain ⟨-, hzero, hclear, hrefresh⟩ := hstop ho
    exact ⟨rfl, hzero, hclear, hrefresh⟩
  · exact .refl F s

theorem keeps_auxExpire (s : State) (c : ChanId) : Keeps F s (s.auxExpire c) := by
  unfold State.auxExpire
  split
  · exact keeps_modTrack _ fun ⟨ha, ⟨href, hcount, hlatch, hstop, _, _⟩, hc⟩ =>
      ⟨ha, ⟨href, hcount, hlatch, hstop, fun _ => rfl, rfl⟩, hc⟩
  · exact .refl F s

/-- The last transmitted frame, offered again with the repeat mark (R97). -/
abbrev repeatFrame (s : State) (c : ChanId) (f : LastTx) : SpFrame :=
  { stage := (s.cfg c).stage, command := f.command, current := f.current, rep := true, final := false }

/-- The slot of a channel whose refresh timer has expired and repeats `f` (R97). -/
abbrev repeatedSlot (s : State) (c : ChanId) (f : LastTx) : Setpoint :=
  { (s.chan c).sp with
    refresh := none, repeats := bump (s.chan c).sp.repeats, since := some s.nextSince, pending := some (repeatFrame s c f) }

/-- An offer to the slot of a channel that is not in shadow mode. -/
theorem offerFrame_of_active (cmd : SpCommand) (i : Int) (rep : Bool) (hs : (s.cfg c).shadow = false) :
    s.offerFrame c cmd i rep =
      s.after c
        { s.chan c with
          sp := (s.chan c).sp.offer
            { stage := (s.cfg c).stage, command := cmd, current := i, rep := rep, final := false } s.nextSince }
        1 [] := by
  simp [State.after_eq, State.offerFrame, State.produceAll, hs]

/-- A refresh timer that expires with the slot empty (R97). -/
theorem refreshExpire_of_empty {f : LastTx} (hnow : (s.chan c).sp.refresh = some s.timeBase)
    (hlast : (s.chan c).sp.lastTx = some f) (hempty : (s.chan c).sp.isEmpty = true) (hs : (s.cfg c).shadow = false) :
    s.refreshExpire c = s.after c { s.chan c with sp := repeatedSlot s c f } 1 [] := by
  have hpend : (s.chan c).sp.pending = none := by simp_all [Setpoint.isEmpty]
  have hslot : Setpoint.offer { (s.chan c).sp with refresh := none, repeats := bump (s.chan c).sp.repeats }
      (repeatFrame s c f) s.nextSince = repeatedSlot s c f := by simp [Setpoint.offer, hpend]
  have hslotted : s.refreshExpire c =
      ((s.modSp c (fun sp => { sp with refresh := none })).modSp c
        (fun sp => { sp with repeats := bump sp.repeats })).offerFrame c f.command f.current true := by
    simp [State.refreshExpire, hnow, hlast, hempty, hs]
  rw [hslotted, offerFrame_of_active _ _ _ (by simpa using hs), State.modSp_eq_after, State.modSp_eq_after, State.after_after,
    State.after_after]
  simpa using congrArg (fun sp => s.after c { s.chan c with sp := sp } 1 []) hslot

/-- A refresh timer that expires otherwise only stops (R97). -/
theorem refreshExpire_of_full (hnow : (s.chan c).sp.refresh = some s.timeBase)
    (hfull : (s.chan c).sp.lastTx = none ∨ (s.chan c).sp.isEmpty = false ∨ (s.cfg c).shadow = true) :
    s.refreshExpire c = s.modSp c (fun sp => { sp with refresh := none }) := by
  unfold State.refreshExpire
  rw [if_pos hnow]
  dsimp only
  split
  · next f hlast =>
    rw [if_neg]
    obtain hnone | hbusy | hshadow := hfull
    · cases hlast.symm.trans hnone
    · simp [hbusy]
    · simp [hshadow]
  · rfl

theorem refreshExpire_of_ne (hnow : (s.chan c).sp.refresh ≠ some s.timeBase) : s.refreshExpire c = s := if_neg hnow

theorem keeps_stopRefresh (s : State) (c : ChanId) : Keeps F s (s.modSp c (fun sp => { sp with refresh := none })) := by
  rw [State.modSp_eq_after]
  refine MoveOk.keeps_after ⟨fun ⟨ha, ⟨href, hcount, hlatch, hstop, haux⟩, hc⟩ => ?_, fun _ h => h, fun _ _ h => h,
    fun _ _ h => h, fun h => .inl ⟨h, rfl⟩, fun _ _ h => .inl h, fun _ _ _ _ => rfl⟩ (fun _ _ => rfl) (fun _ _ _ => rfl)
  refine ⟨ha, ⟨href, hcount, hlatch, fun ho => ?_, haux⟩, hc⟩
  obtain ⟨hsil, hzero, hclear, -⟩ := hstop ho
  exact ⟨hsil, hzero, hclear, rfl⟩

theorem keeps_refreshExpire (s : State) (c : ChanId) : Keeps F s (s.refreshExpire c) := by
  by_cases hnow : (s.chan c).sp.refresh = some s.timeBase
  · by_cases hfull : (s.chan c).sp.lastTx = none ∨ (s.chan c).sp.isEmpty = false ∨ (s.cfg c).shadow = true
    · rw [refreshExpire_of_full hnow hfull]
      exact keeps_stopRefresh s c
    · simp only [not_or, Bool.not_eq_false, Bool.not_eq_true] at hfull
      obtain ⟨hlast, hempty, hs⟩ := hfull
      obtain ⟨f, hlast⟩ := Option.ne_none_iff_exists'.mp hlast
      rw [refreshExpire_of_empty hnow hlast hempty hs]
      simp only [Setpoint.isEmpty, Bool.and_eq_true, Option.isNone_iff_eq_none] at hempty
      obtain ⟨hpend, htx⟩ := hempty
      refine MoveOk.keeps_after ⟨fun ⟨ha, ht, hc⟩ => ?_, fun _ h => h, fun _ _ h => h, fun _ _ hq hcase => ?_,
        fun _ => .inr ⟨hs, 0, Nat.one_pos, rfl⟩, fun _ _ h => .inl h, fun _ _ _ _ => rfl⟩ (fun _ _ => rfl) (fun _ _ _ => rfl)
      · obtain ⟨href, hcount, hlatch, hstop, haux⟩ := ht
        obtain ⟨hdup, hstale, hmiss, hgap, hcad, hl, hsu, -, hcyc⟩ := hc
        refine ⟨ha, ⟨href, hcount, hlatch, fun ho => ?_, haux⟩, hdup, hstale, hmiss, hgap, hcad, hl, hsu, bump_le _, hcyc⟩
        obtain ⟨hsil, hzero, hclear, -⟩ := hstop ho
        exact ⟨hsil, hzero, hclear, rfl⟩
      · have hword : (s.chan c).sp.lastWord = some f.command := by simp [Setpoint.lastWord, hpend, htx, hlast]
        have hquiet := hq hcase
        rw [hword] at hquiet
        exact hquiet
  · rw [refreshExpire_of_ne hnow]
    exact .refl F s

theorem keeps_expireDue (s : State) (c : ChanId) : Keeps F s (s.expireDue c) :=
  ((keeps_silenceExpire s c).trans (keeps_auxExpire _ c)).trans (keeps_refreshExpire _ c)

/-! ## Engine state (R182, R183) -/

theorem keeps_endInit (s : State) : Keeps F s s.endInit := by
  unfold State.endInit
  split
  · next h =>
    obtain ⟨-, hclear, -⟩ := h
    refine SameChannels.keeps ⟨rfl, rfl, fun _ _ => Iff.rfl, rfl, rfl, rfl, id, rfl⟩ id id fun _ => ⟨fun h => ?_, fun h => ?_⟩
    · exact absurd (hclear.symm.trans h) (by decide)
    · dsimp only [State.initTarget] at h
      split at h <;> cases h
  · exact .refl F s

theorem acceptConflict_nil : acceptConflict [] = false := by decide

/-- The state whose tables are empty and whose table clear is over (R56, R183). -/
abbrev emptied (s : State) : State :=
  { s with
    clearing := false, acceptTable := [], stepTable := [], programTable := [], segmentTable := [],
    profileTable := [], limitTable := [], configTable := [] }

theorem emptied_tablesOk (h : tablesOk s) : tablesOk (emptied s) := by
  obtain ⟨-, -, hjob, -⟩ := h
  refine ⟨State.reset_tablesWf, ⟨?_, ?_, ?_, ?_, ?_, ?_⟩, hjob, acceptConflict_nil⟩ <;> exact fun _ h => absurd h List.not_mem_nil

theorem emptied_shadow (s : State) (x : ChanId) : ((emptied s).cfg x).shadow = false := rfl

theorem keeps_emptied (hclear : s.clearing = true) : Keeps F s (emptied s) where
  pending := rfl
  books := id
  tables := emptied_tablesOk
  accounts := id
  flights _ := id
  slots _ _ h := by
    obtain ⟨hquiet, hsince⟩ := h
    refine ⟨fun hr x hcase => hquiet hr x ?_, hsince⟩
    obtain hstate | hin | hshadow := hcase
    · exact .inl hstate
    · exact .inr (.inl hin)
    · rw [emptied_shadow] at hshadow
      cases hshadow
  supervision _ _ := id
  configuration _ _ h := by
    obtain ⟨-, hinit, hrest⟩ := h
    exact ⟨fun x hon => absurd ((hrest (hinit hclear)).1 x) hon, nofun, hrest⟩

theorem keeps_clearTables (s : State) : Keeps F s s.clearTables := by
  unfold State.clearTables
  split
  · next h => exact (keeps_emptied h).trans (keeps_endInit _)
  · exact .refl F s

theorem keeps_tick (s : State) : Keeps F s s.tick := by
  have hclear : Keeps F s s.clearDue := by
    unfold State.clearDue
    split
    · exact keeps_clearTables s
    · exact .refl F s
  refine (hclear.trans (Keeps.foldl keeps_expireDue allChannels s.clearDue)).trans ?_
  unfold State.tick State.forChannels
  generalize allChannels.foldl State.expireDue s.clearDue = u
  exact SameChannels.keeps ⟨rfl, rfl, fun _ _ => Iff.rfl, rfl, rfl, rfl, id, rfl⟩ id id id

/-! ## Transmitters (R94, R149, R151) -/

/-- A move of a channel's slot between its frames: the slot's last word, its counters and its place in the order stay. -/
theorem keeps_slot {sp : Setpoint} (hword : sp.lastWord = (s.chan c).sp.lastWord)
    (hcounts : sp.superseded = (s.chan c).sp.superseded ∧ sp.repeats = (s.chan c).sp.repeats)
    (hrefresh : (s.chan c).state = .off → sp.refresh = (s.chan c).sp.refresh)
    (hpend : sp.pending.isSome = true → sp.pending = (s.chan c).sp.pending ∧ sp.since = (s.chan c).sp.since) :
    Keeps F s { s with channels := s.channels.set c.val { s.chan c with sp := sp } } := by
  have hset : ({ s with channels := s.channels.set c.val { s.chan c with sp := sp } } : State) =
      s.after c { s.chan c with sp := sp } 0 [] := State.setChan_eq_after ..
  rw [hset]
  refine MoveOk.keeps_after ⟨fun ⟨ha, ht, hc⟩ => ?_, fun _ h => h, fun _ _ h => h, fun _ _ h hcase => ?_,
    fun h => .inl ⟨?_, (hpend h).2⟩, fun _ _ h => .inl h, fun _ _ _ _ => rfl⟩ (fun _ _ => rfl) (fun _ _ _ => rfl)
  · obtain ⟨href, hcount, hlatch, hstop, haux⟩ := ht
    obtain ⟨hdup, hstale, hmiss, hgap, hcad, hl, hsu, hrep, hcyc⟩ := hc
    refine ⟨ha, ⟨href, hcount, hlatch, fun ho => ?_, haux⟩, hdup, hstale, hmiss, hgap, hcad, hl, hcounts.1.trans_le hsu,
      hcounts.2.trans_le hrep, hcyc⟩
    obtain ⟨hsil, hzero, hclear, hr⟩ := hstop ho
    exact ⟨hsil, hzero, hclear, (hrefresh ho).trans hr⟩
  · show sp.lastWord ≠ some .run
    rw [hword]
    exact h hcase
  · rw [← (hpend h).1]
    exact h

theorem keeps_startSetpoint (s : State) (c : ChanId) : Keeps F s (s.startSetpoint c) := by
  unfold State.startSetpoint
  split
  · exact .refl F s
  · next f hf =>
    have hsp : Keeps F s { s with channels := s.channels.set c.val { s.chan c with sp := (s.chan c).sp.startTx f } } :=
      keeps_slot (by simp [Setpoint.lastWord, Setpoint.startTx, hf]) ⟨rfl, rfl⟩ (fun _ => rfl) nofun
    refine hsp.trans (SameChannels.keeps ⟨rfl, rfl, fun _ _ => Iff.rfl, rfl, rfl, rfl, id, rfl⟩ (fun h => ?_) id id)
    obtain ⟨hq, ⟨hw, hzero⟩, hbook⟩ := h
    refine ⟨hq, ⟨?_, fun he => ?_⟩, hbook⟩
    · dsimp only
      split
      · exact hw
      · exact Nat.min_le_left ..
    · have he' : s.relayDown = [] := he
      simpa [he'] using hzero he

theorem keeps_startRelayDown (s : State) : Keeps F s s.startRelayDown := by
  unfold State.startRelayDown
  split
  · exact .refl F s
  · next f rest hf =>
    refine SameChannels.keeps ⟨rfl, rfl, fun _ _ => Iff.rfl, rfl, rfl, rfl, id, rfl⟩ (fun h => ?_) id id
    obtain ⟨⟨hdown, hq⟩, -, hbook⟩ := h
    rw [hf] at hdown
    exact ⟨⟨(Nat.le_succ _).trans hdown, hq⟩, ⟨Nat.zero_le _, fun _ => rfl⟩, hbook⟩

theorem keeps_startDn (s : State) : Keeps F s s.startDn := by
  unfold State.startDn
  split
  · exact .refl F s
  · split
    · exact keeps_startSetpoint s _
    · exact keeps_startRelayDown s

/-- The slot of a channel is emptied when its final ZERO has been sent (R101). -/
theorem keeps_resetSlot (s : State) (c : ChanId) : Keeps F s (s.modSp c (fun _ => Setpoint.reset)) := by
  rw [State.modSp_eq_after]
  refine MoveOk.keeps_after ⟨fun ⟨ha, ht, hc⟩ => ?_, fun _ h => h, fun _ _ h => h, fun _ _ _ _ => nofun, nofun,
    fun _ _ h => .inl h, fun _ _ _ _ => rfl⟩ (fun _ _ => rfl) (fun _ _ _ => rfl)
  obtain ⟨href, hcount, hlatch, hstop, haux⟩ := ht
  obtain ⟨hdup, hstale, hmiss, hgap, hcad, hl, -, -, hcyc⟩ := hc
  refine ⟨ha, ⟨href, hcount, hlatch, fun ho => ?_, haux⟩, hdup, hstale, hmiss, hgap, hcad, hl, Nat.zero_le _, Nat.zero_le _,
    hcyc⟩
  obtain ⟨hsil, hzero, hclear, -⟩ := hstop ho
  exact ⟨hsil, hzero, hclear, rfl⟩

/-- A frame is the slot's last word while it is transmitted and afterwards. -/
theorem completeTx_lastWord {sp : Setpoint} {f : SpFrame} {n : Byte} (h : sp.inTx = some (f, n)) (restart : Bool) (expiry : Tick) :
    (sp.completeTx f restart expiry).lastWord = sp.lastWord := by
  cases hp : sp.pending <;> simp [Setpoint.lastWord, Setpoint.completeTx, h, hp]

theorem keeps_completeDn (s : State) : Keeps F s s.completeDn := by
  have hfree : Keeps F s { s with dnTx := none } :=
    SameChannels.keeps ⟨rfl, rfl, fun _ _ => Iff.rfl, rfl, rfl, rfl, id, rfl⟩ id id id
  unfold State.completeDn
  split
  · exact .refl F s
  · dsimp only
    split
    · exact hfree
    · next c _ =>
      split
      · exact hfree
      · next f n htx =>
        split
        · exact (hfree.trans (keeps_resetSlot _ c)).trans (keeps_endInit _)
        · refine hfree.trans (keeps_slot (s := { s with dnTx := none }) (c := c) ?_ ⟨rfl, rfl⟩ (fun ho => ?_) fun _ => ⟨rfl, rfl⟩)
          · exact completeTx_lastWord htx _ _
          · have ho' : (s.chan c).state = .off := ho
            simp [Setpoint.completeTx, ho']

theorem dataRecords_le_cons (r : Record) (l : List Record) : dataRecords l ≤ dataRecords (r :: l) := by
  unfold dataRecords
  rw [List.filter_cons]
  split <;> simp

/-- The UP transmitter takes what the arbiter gives it (R151). -/
theorem keeps_startUp (s : State) : Keeps F s s.startUp := by
  have hrelay : s.upTx = none → Keeps F s s.startRelayUp := by
    intro htx
    unfold State.startRelayUp
    split
    · exact .refl F s
    · next f rest hf =>
      refine SameChannels.keeps ⟨rfl, rfl, fun _ _ => Iff.rfl, rfl, rfl, rfl, id, rfl⟩ (fun h => ?_) id id
      obtain ⟨⟨hdown, hup, hq⟩, hw, hbook, hreset, hport, hmark, -⟩ := h
      rw [hf] at hup
      exact ⟨⟨hdown, (Nat.le_succ _).trans hup, hq⟩, hw, hbook, hreset, hport, hmark, nofun⟩
  have hreport : s.upTx = none → Keeps F s s.startReport := by
    intro htx
    unfold State.startReport
    split
    · exact .refl F s
    · next r rest hr =>
      refine SameChannels.keeps ⟨rfl, rfl, fun _ _ => Iff.rfl, rfl, rfl, rfl, id, rfl⟩ (fun h => ?_) id (fun h => ?_)
      · obtain ⟨⟨hdown, hup, hreq, hans, hlen, hdata, hdrop⟩, hw, hbook, hreset, hport, hmark, -⟩ := h
        rw [hr] at hlen hdata
        exact ⟨⟨hdown, hup, hreq, hans, (Nat.le_succ _).trans hlen, (dataRecords_le_cons r rest).trans hdata, hdrop⟩, hw, hbook,
          hreset, hport, hmark, nofun⟩
      · obtain ⟨hclear, hinit⟩ := h
        refine ⟨hclear, fun he => ?_⟩
        obtain ⟨-, -, -, hnone, -⟩ := hinit he
        cases hr.symm.trans hnone
  unfold State.startUp
  split
  · exact .refl F s
  · next htx =>
    split
    · next a rest ha =>
      refine SameChannels.keeps ⟨rfl, rfl, fun _ _ => Iff.rfl, rfl, rfl, rfl, id, rfl⟩ (fun h => ?_) id (fun h => ?_)
      · obtain ⟨⟨hdown, hup, hreq, hans, hlen⟩, hw, hbook, hreset, hport, hmark, -⟩ := h
        rw [ha] at hans hmark hbook
        refine ⟨⟨hdown, hup, hreq, (Nat.le_succ _).trans hans, hlen⟩, hw, fun hj => ?_, hreset, hport, fun hr => hmark ?_,
          fun hr => hmark ?_⟩
        · obtain ⟨hne, hlt⟩ := hbook hj
          exact ⟨hne, (Nat.lt_succ_self _).trans hlt⟩
        · rw [List.any_cons]
          exact Bool.or_eq_true_iff.mpr (.inr hr)
        · rw [List.any_cons]
          exact Bool.or_eq_true_iff.mpr (.inl hr)
      · obtain ⟨hclear, hinit⟩ := h
        refine ⟨hclear, fun he => ?_⟩
        obtain ⟨-, -, hnone, -⟩ := hinit he
        cases ha.symm.trans hnone
    · split
      · exact hrelay htx
      · exact hreport htx
      · split
        · exact hreport htx
        · exact hrelay htx

end Sys2Proof.Proofs
end

section
/-! What the accepted channel commands do to their channel, each as one `State.after`, and the statements of the channel commands
(R124, R130 to R135). -/

namespace Sys2Proof.Proofs

open Sys2Proof Sys2Proof.Machine

variable {s : State} {c : ChanId}

/-! ## Each accepted command as one event of its channel -/

/-- The channel at an accepted START, before its transition begins (R130). -/
abbrev startedRunning (s : State) (c : ChanId) (sel idx : Nat) : Channel :=
  { (s.chan c).started sel idx (s.programDesc sel) (s.tickIn (s.cfg c).silenceTicks) with state := .running }

theorem doStart_eq_after (s : State) (c : ChanId) (sel idx : Nat) :
    s.doStart c sel idx =
      { s.after c
          ((startedRunning s c sel idx).begun idx none { s.slot c .zero 0 s.nextSince with nextSeq := 0 })
          1 (s.stateBody c (s.chan c).state .running .normal .command) with
        fetchQueue := s.fetchQueue ++ [c] } := by
  have hentered : ((s.modChan c (fun ch => ch.started sel idx (s.programDesc sel) (s.tickIn (s.cfg c).silenceTicks))).changeState
      c .running .command) =
      s.after c (startedRunning s c sel idx) 0 (s.stateBody c (s.chan c).state .running .normal .command) := by
    rw [State.changeState_eq_after, State.modChan_eq_after, State.after_after]
    simp [Channel.started, startedRunning]
  have hslot : (if (s.cfg c).shadow then (startedRunning s c sel idx).sp
      else (startedRunning s c sel idx).sp.offer (zeroFrame s c) s.nextSince) =
      { s.slot c .zero 0 s.nextSince with nextSeq := 0 } := by
    unfold State.slot
    split
    · rfl
    · exact Setpoint.offer_nextSeq ..
  unfold State.doStart
  rw [hentered, State.beginTransition_eq_after, State.after_after, State.after_slot, State.after_chan_self,
    State.after_nextSince, State.after_fetchQueue, Nat.add_zero, ite_self, hslot, List.append_nil]

theorem holdStep_eq_after (s : State) (c : ChanId) :
    s.holdStep c =
      s.after c
        { s.chan c with
          state := .held, seq := { (s.chan c).seq with resume := .step }, sp := s.slot c .zero 0 s.nextSince }
        1 (s.stateBody c (s.chan c).state .held (s.chan c).sup.level .command) := by
  unfold State.holdStep
  rw [State.changeState_eq_after, State.offerZero_eq_after, State.modSeq_eq_after, State.after_after, State.after_after]
  simp [State.slot]

theorem holdIsolated_eq_after (s : State) (c : ChanId) :
    s.holdIsolated c =
      s.after c { s.chan c with state := .held, sup := { (s.chan c).sup with recovery := 0, hardMark := false } } 0
        (s.stateBody c (s.chan c).state .held (s.chan c).sup.level .command) := by
  unfold State.holdIsolated
  rw [State.changeState_eq_after, State.modSup_eq_after, State.after_after]
  simp

/-- The channel at an accepted RESUME, before a transition begins (R132). -/
abbrev resumed (ch : Channel) (grace : Bool) : Channel :=
  { ch with
    state := .running, seq := { ch.seq with resume := .none, grace := grace }, sup := { ch.sup with hardMark := false } }

theorem doResume_eq_after (s : State) (c : ChanId) (grace : Bool) :
    s.doResume c grace =
      if (s.chan c).seq.resume = .step then
        s.after c (resumed (s.chan c) grace) 0 (s.stateBody c (s.chan c).state .running (s.chan c).sup.level .command)
      else
        { s.after c ((resumed (s.chan c) grace).begun (s.chan c).seq.index none (s.slot c .zero 0 s.nextSince))
            1 (s.stateBody c (s.chan c).state .running (s.chan c).sup.level .command) with
          fetchQueue := s.fetchQueue ++ [c] } := by
  unfold State.doResume
  simp only [State.beginTransition_eq_after, State.changeState_eq_after, State.modChan_eq_after, State.after_after,
    State.after_slot, State.after_chan_self, State.after_stateBody, State.after_nextSince, State.after_fetchQueue]
  cases (s.chan c).seq.resume <;> simp [State.slot]

/-- The channel after an accepted STOP (R134). -/
abbrev stoppedOff (s : State) (c : ChanId) : Channel :=
  { s.chan c with
    state := .off, seq := (s.chan c).seq.dropped none .none
    track := { (s.chan c).track with silence := none, stuckCount := 0, stuckLatch := false }
    sp := { (if (s.chan c).state = .running ∨ (s.chan c).state = .held then s.slot c .zero 0 s.nextSince
             else (s.chan c).sp) with refresh := none }
    sup := if (s.chan c).state = .isolated then { (s.chan c).sup with recovery := 0, hardMark := false } else (s.chan c).sup }

theorem doStop_eq_after (s : State) (c : ChanId) :
    s.doStop c =
      (s.after c (stoppedOff s c) (if (s.chan c).state = .running ∨ (s.chan c).state = .held then 1 else 0)
        (s.stateBody c (s.chan c).state .off (s.chan c).sup.level .command)).leaveFetch c := by
  unfold State.doStop
  simp only [State.changeState_eq_after, State.modChan_eq_after, State.offerZero_eq_after, State.leaveFetch_after,
    State.after_after]
  cases h : (s.chan c).state <;> cases hs : (s.cfg c).shadow <;>
    simp [stoppedOff, Channel.stopped, Sequencing.dropped, Sequencing.cease, State.slot, State.stateBody, Setpoint.offer_refresh, State.after_after, State.leaveFetch_after, h, hs]

/-- The sample that ends a step at a command: the last one, or 0 and absent (R77). -/
abbrev lastSample (ch : Channel) : Sample := ch.track.lastPrimary.getD { v := 0, i := 0, t := none }

theorem stepEndCommand_eq_after (s : State) (c : ChanId) :
    s.stepEndCommand c =
      s.after c (s.chan c) 0
        (s.stepEndBodies c .command (lastSample (s.chan c)).v (lastSample (s.chan c)).i (lastSample (s.chan c)).t) := by
  unfold State.stepEndCommand lastSample
  cases (s.chan c).track.lastPrimary <;> exact State.stepEnd_eq_after ..

theorem jumpRunning_eq_after (s : State) (c : ChanId) (idx : Nat) :
    (s.stepEndCommand c).beginTransition c idx none =
      { s.after c ((s.chan c).begun idx none (s.slot c .zero 0 s.nextSince)) 1
          (s.stepEndBodies c .command (lastSample (s.chan c)).v (lastSample (s.chan c)).i (lastSample (s.chan c)).t) with
        fetchQueue := s.fetchQueue ++ [c] } := by
  rw [State.beginTransition_eq_after, stepEndCommand_eq_after, State.after_after, State.after_slot]
  simp [State.slot]

theorem jumpHeld_eq_after (s : State) (c : ChanId) (idx : Nat) :
    s.jumpHeld c idx =
      s.after c
        { s.chan c with
          seq := { (s.chan c).seq with
            stepCopy := if (s.chan c).seq.resume = .step then none else (s.chan c).seq.stepCopy
            index := idx, resume := .transition } }
        0
        (if (s.chan c).seq.resume = .step then
          s.stepEndBodies c .command (lastSample (s.chan c)).v (lastSample (s.chan c)).i (lastSample (s.chan c)).t
        else []) := by
  unfold State.jumpHeld
  simp only [stepEndCommand_eq_after, State.modSeq_eq_after, State.after_after]
  cases (s.chan c).seq.resume <;> simp [State.after_after]

end Sys2Proof.Proofs
end

section
/-! The statements of the channel commands (R124, R130 to R135), each from its accepted command as one event of its channel. -/

namespace Sys2Proof.Proofs

open Sys2Proof Sys2Proof.Machine

variable {s : State} {c : ChanId} {r : Request} {rest : List Request}

/-! ## Running a command whose arguments are in their ranges -/

/-- A command row whose arguments pass their range check. -/
theorem runCommand_of_inRange {n : Nat} {b : Bool} (hb : b = true) (s : State) (r : Request)
    (act : State → ChanId → Status × State) : s.runCommand r n b act = s.runCommand r n true act := by rw [hb]

/-- A request row whose command meets the ranges of its arguments answers with what the command did. -/
theorem execRow_of_command {row : RequestRow} {f : State → Request → State} {n : Nat}
    {act : State → ChanId → Status × State} (hs : s.executes r rest) (hrow : r.row = row) (hc : r.commands c n)
    (hf : f s r = s.runCommand r n true act) {st : Status} {t : State} (hact : act s c = (st, t))
    (hrequests : t.requests = s.requests) (hjob : t.job = s.job) :
    execRow row f s = .next (t.answered r rest st (commandLine r (t.chan c).state)) := by
  have h := execRow_of_commands (act := act) hs hrow hc (by rw [hact]; exact hrequests) (by rw [hact]; exact hjob)
  rw [execRow_of_executes hs hrow] at h ⊢
  rw [hact] at h
  rw [hf]
  exact h

/-- A command that moves its channel only. -/
theorem execRow_of_after {row : RequestRow} {f : State → Request → State} {n : Nat}
    {act : State → ChanId → Status × State} (hs : s.executes r rest) (hrow : r.row = row) (hc : r.commands c n)
    (hf : f s r = s.runCommand r n true act) {st : Status} {ch : Channel} {m : Nat} {l : List Body}
    (hact : act s c = (st, s.after c ch m l)) :
    execRow row f s = .next ((s.after c ch m l).answered r rest st (commandLine r ch.state)) := by
  rw [execRow_of_command hs hrow hc hf hact (State.after_requests ..) (State.after_job ..), State.after_chan_self]

/-- A command that moves its channel, the step fetch queue and the port. -/
theorem execRow_of_moved {row : RequestRow} {f : State → Request → State} {n : Nat}
    {act : State → ChanId → Status × State} (hs : s.executes r rest) (hrow : r.row = row) (hc : r.commands c n)
    (hf : f s r = s.runCommand r n true act) {st : Status} {ch : Channel} {m : Nat} {l : List Body} {q : List ChanId}
    {p : PortState} (hact : act s c = (st, moved s c ch m l q p)) :
    execRow row f s = .next ((moved s c ch m l q p).answered r rest st (commandLine r ch.state)) := by
  rw [execRow_of_command hs hrow hc hf hact (State.after_requests s c ch m l) (State.after_job s c ch m l), moved_chan_self]

/-- A refused command. -/
theorem execRow_of_refused {row : RequestRow} {f : State → Request → State} {n : Nat}
    {act : State → ChanId → Status × State} (hs : s.executes r rest) (hrow : r.row = row) (hc : r.commands c n)
    (hf : f s r = s.runCommand r n true act) {st : Status} (hact : act s c = (st, s)) :
    execRow row f s = .next (s.answered r rest st (commandLine r (s.chan c).state)) :=
  execRow_of_command hs hrow hc hf hact rfl rfl

/-- An event of one channel that also joined the step fetch queue, as a move. -/
theorem after_joined (s : State) (c : ChanId) (ch : Channel) (n : Nat) (l : List Body) :
    ({ s.after c ch n l with fetchQueue := s.fetchQueue ++ [c] } : State) =
      moved s c ch n l (s.fetchQueue ++ [c]) s.port := by
  rw [moved, State.after_eq]

/-! ## CONFIGURE -/

/-- Settles O38: CONFIGURE by its refusals and its effect on the channel's record and source tracking. -/
theorem configureCommand : Obligations.ConfigureCommand := by
  intro s r rest c k hs hrow hc hread hwf
  have hf : reqConfigure s r = s.runCommand r 16 true (cmdConfigure k) := by simp [reqConfigure, hread]
  refine ⟨fun hon => ?_, fun hoff hconf hvalid => ?_, fun hoff hvalid => ?_⟩
  · exact execRow_of_refused hs hrow hc hf (by simp [cmdConfigure, hon])
  · have h := execRow_of_refused hs hrow hc hf (st := .badArgument) (by simp [cmdConfigure, hoff, hconf, hvalid])
    rwa [hoff] at h
  · have hact : cmdConfigure k s c = (.ok, { s.modTrack c (fun _ => Tracking.reset) with
        configTable := Table.write ConfigRec.reset s.configTable c.val k }) := by
      have hok : (k.configured && !(s.limitSet k.limitSet).valid) = false := by
        cases hk : k.configured
        · rfl
        · rw [hvalid hk]
          rfl
      simp [cmdConfigure, hoff, hok]
    have h := execRow_of_command hs hrow hc hf hact rfl rfl
    refine ⟨_, h, fun d => State.writeConfigTable_cfg hwf, ?_⟩
    have hstate : ((s.modTrack c (fun _ => Tracking.reset)).chan c).state = .off := by simpa using hoff
    exact congrArg (fun x => State.answered _ r rest .ok (commandLine r x)) hstate

/-! ## START -/

/-- Settles O39: the refusals of START in their order, then the accepted START as one event. -/
theorem startCommand : Obligations.StartCommand := by
  rintro s r rest c sel idx old ch hs hrow hc hsel hidx hsel63 hidx1023 rfl rfl
  have hf : reqStart s r = s.runCommand r 3 true (cmdStart sel idx) := by
    rw [reqStart, ← hsel, ← hidx]
    exact runCommand_of_inRange (by simp [hsel63, hidx1023]) ..
  split
  · next hstate => exact execRow_of_refused hs hrow hc hf (by simp [cmdStart, hstate])
  · next hstate =>
    have hopen : (s.chan c).state = .off ∨ (s.chan c).state = .complete := by tauto
    split
    · next hconf =>
      refine execRow_of_refused hs hrow hc hf ?_
      obtain h | h := hconf <;> simp [cmdStart, hopen, h]
    · next hconf =>
      obtain ⟨hconf, hvalid⟩ := not_or.mp hconf
      rw [Bool.not_eq_false] at hconf hvalid
      split
      · next hestop => exact execRow_of_refused hs hrow hc hf (by simp [cmdStart, hopen, hconf, hvalid, hestop])
      · next hestop =>
        split
        · next hdesc =>
          refine execRow_of_refused hs hrow hc hf ?_
          have hbad : ¬ ((s.programDesc sel).valid = true ∧ idx < (s.programDesc sel).limit) := by
            rintro ⟨hv, hlt⟩
            obtain h | h := hdesc
            · exact absurd (hv.symm.trans h) (by decide)
            · omega
          rw [cmdStart, if_pos hopen, if_neg (by simp [hconf, hvalid]), if_neg hestop, if_neg hbad]
        · next hdesc =>
          obtain ⟨hv, hlt⟩ := not_or.mp hdesc
          rw [Bool.not_eq_false] at hv
          have hact : cmdStart sel idx s c = (.ok, s.doStart c sel idx) := by
            rw [cmdStart, if_pos hopen, if_neg (by simp [hconf, hvalid]), if_neg hestop, if_pos ⟨hv, by omega⟩]
          rw [doStart_eq_after, after_joined] at hact
          rw [after_joined]
          exact execRow_of_moved hs hrow hc hf hact

/-! ## HOLD -/

/-- Settles O40: the table of R131, row by row. -/
theorem holdCommand : Obligations.HoldCommand := by
  rintro s r rest c ch hs hrow hc rfl
  have hf : reqHold s r = s.runCommand r 0 true cmdHold := rfl
  refine ⟨fun hrun hidle => ?_, fun hrun hfly => ?_, fun hheld => ?_, fun hiso hpolicy => ?_, fun hiso hpolicy => ?_,
    fun hstate => ?_⟩
  · have hact : cmdHold s c = (.ok, s.holdStep c) := by simp [cmdHold, hrun, hidle]
    rw [holdStep_eq_after, hrun] at hact
    exact execRow_of_after hs hrow hc hf hact
  · have hact : cmdHold s c = (.ok, s.modSeq c (fun q => { q with holdPending := some (q.holdPending.getD .command) })) := by
      simp only [cmdHold, hrun, hfly, if_true]
      refine congrArg (Prod.mk Status.ok) (congrArg (s.modSeq c) (funext fun q => ?_))
      cases q.holdPending <;> rfl
    rw [State.modSeq_eq_after] at hact
    have h := execRow_of_after hs hrow hc hf hact
    simp only [hrun] at h ⊢
    exact h
  · have h := execRow_of_refused hs hrow hc hf (st := .ok) (by simp [cmdHold, hheld])
    rwa [hheld] at h
  · have hact : cmdHold s c = (.ok, s.holdIsolated c) := by simp [cmdHold, hiso, hpolicy]
    rw [holdIsolated_eq_after, hiso] at hact
    exact execRow_of_after hs hrow hc hf hact
  · have h := execRow_of_refused hs hrow hc hf (st := .wrongState) (by
      cases hp : (s.cfg c).policy <;> simp_all [cmdHold])
    rwa [hiso] at h
  · refine execRow_of_refused hs hrow hc hf ?_
    obtain h | h := hstate <;> simp [cmdHold, h]

/-! ## RESUME -/

theorem readBool_of_le_one {n : Nat} (h : n ≤ 1) : readBool n = some (decide (n = 1)) := by
  obtain rfl | rfl : n = 0 ∨ n = 1 := by omega
  · rfl
  · rfl

/-- Settles O41: the refusals of RESUME, the held step that goes on, and the transition from the position. -/
theorem resumeCommand : Obligations.ResumeCommand := by
  rintro s r rest c ch hs hrow hc hgrace rfl
  have hf : reqResume s r = s.runCommand r 1 true (cmdResume (decide (u8At r.args 2 = 1))) := by
    simp [reqResume, readBool_of_le_one hgrace]
  split
  · next hstate => exact execRow_of_refused hs hrow hc hf (by simp [cmdResume, hstate])
  · next hstate =>
    have hheld : (s.chan c).state = .held := not_not.mp hstate
    split
    · next hestop =>
      have h := execRow_of_refused hs hrow hc hf (st := .estop) (by simp [cmdResume, hheld, hestop])
      rwa [hheld] at h
    · next hestop =>
      have hact : cmdResume (decide (u8At r.args 2 = 1)) s c = (.ok, s.doResume c (decide (u8At r.args 2 = 1))) := by
        simp [cmdResume, hheld, hestop]
      rw [doResume_eq_after, hheld] at hact
      split
      · next hstep =>
        rw [if_pos hstep] at hact
        exact execRow_of_after hs hrow hc hf hact
      · next hstep =>
        rw [if_neg hstep, after_joined] at hact
        rw [after_joined]
        exact execRow_of_moved hs hrow hc hf hact

/-! ## STOP -/

/-- Settles O42: STOP is refused in OFF and otherwise one event that leaves the step fetch queue. -/
theorem stopCommand : Obligations.StopCommand := by
  rintro s r rest c ch hs hrow hc rfl
  have hf : reqStop s r = s.runCommand r 0 true cmdStop := rfl
  split
  · next hoff =>
    have h := execRow_of_refused hs hrow hc hf (st := .wrongState) (by simp [cmdStop, hoff])
    rwa [hoff] at h
  · next hon =>
    have hact : cmdStop s c = (.ok, s.doStop c) := by simp [cmdStop, hon]
    rw [doStop_eq_after, State.leaveFetch, State.after_fetchQueue, State.after_port] at hact
    exact execRow_of_moved hs hrow hc hf hact

/-! ## JUMP -/

/-- Settles O43: JUMP by the channel's state, with its answer BUSY while a transition is in flight. -/
theorem jumpCommand : Obligations.JumpCommand := by
  rintro s r rest c idx ch p hs hrow hc hidx hle rfl rfl
  have hf : reqJump s r = s.runCommand r 2 true (cmdJump idx) := by
    rw [reqJump, ← hidx]
    exact runCommand_of_inRange (by simp [hle]) ..
  cases hstate : (s.chan c).state with
  | running =>
    dsimp only
    split
    · next hfly =>
      have h := execRow_of_refused hs hrow hc hf (st := .busy) (by simp [cmdJump, hstate, hfly])
      rwa [hstate] at h
    · next hidle =>
      have hact : cmdJump idx s c = (.ok, (s.stepEndCommand c).beginTransition c idx none) := by
        simp [cmdJump, hstate, hidle]
      rw [jumpRunning_eq_after, after_joined] at hact
      rw [after_joined]
      have h := execRow_of_moved hs hrow hc hf hact
      simp only [Channel.begun, hstate] at h ⊢
      exact h
  | held =>
    have hact : cmdJump idx s c = (.ok, s.jumpHeld c idx) := by simp [cmdJump, hstate]
    rw [jumpHeld_eq_after] at hact
    have h := execRow_of_after hs hrow hc hf hact
    simp only [hstate] at h ⊢
    exact h
  | off | complete | isolated =>
    have h := execRow_of_refused hs hrow hc hf (st := .wrongState) (by simp [cmdJump, hstate])
    rwa [hstate] at h

end Sys2Proof.Proofs
end

section
/-! The management requests keep the invariants. A request is executed outside INIT, with no other request in execution, with no
answered RESET_ENGINE waiting, and with room for its answer (R158, R170). -/

namespace Sys2Proof.Proofs

open Sys2Proof Sys2Proof.Machine

variable {F : Prop} {s t : State} {c : ChanId}

/-! ## When a request is executed -/

/-- What R158 and R170 ask of the engine before a request is executed. -/
structure Ready (s : State) : Prop where
  engine : s.engine ≠ .init
  job : s.job = none
  resetPending : s.resetPending = false
  answers : s.answers.length < 2

/-- An event before which nothing of `Ready` changes. -/
structure Served (F : Prop) (s t : State) : Prop where
  keeps : Keeps F s t
  resetN : t.resetN = s.resetN
  engine : t.engine = s.engine
  job : t.job = s.job
  resetPending : t.resetPending = s.resetPending
  answers : t.answers = s.answers

theorem Served.refl (F : Prop) (s : State) : Served F s s := ⟨.refl F s, rfl, rfl, rfl, rfl, rfl⟩

theorem Served.ready (h : Served F s t) (hs : Ready s) : Ready t := by
  obtain ⟨-, -, hengine, hjob, hpending, hanswers⟩ := h
  obtain ⟨he, hj, hp, ha⟩ := hs
  exact ⟨hengine ▸ he, hjob.trans hj, hpending.trans hp, hanswers ▸ ha⟩

theorem after_resetN (s : State) (c : ChanId) (ch : Channel) (n : Nat) (l : List Body) :
    (s.after c ch n l).resetN = s.resetN := by rw [State.after_eq]

theorem after_resetPending (s : State) (c : ChanId) (ch : Channel) (n : Nat) (l : List Body) :
    (s.after c ch n l).resetPending = s.resetPending := by rw [State.after_eq]

theorem Served.of_moved {ch : Channel} {n : Nat} {l : List Body} {q : List ChanId} {p : PortState}
    (h : Keeps F s (moved s c ch n l q p)) : Served F s (moved s c ch n l q p) :=
  ⟨h, after_resetN s c ch n l, State.after_engine s c ch n l, State.after_job s c ch n l, after_resetPending s c ch n l, State.after_answers s c ch n l⟩

theorem Served.of_after {ch : Channel} {n : Nat} {l : List Body} (h : Keeps F s (s.after c ch n l)) :
    Served F s (s.after c ch n l) :=
  ⟨h, after_resetN s c ch n l, State.after_engine s c ch n l, State.after_job s c ch n l, after_resetPending s c ch n l, State.after_answers s c ch n l⟩

theorem keeps_placeAnswer (hs : Ready s) (r : Request) (st : Status) (l : List Byte) : Keeps F s (s.placeAnswer r st l) := by
  obtain ⟨hengine, hjob, hpending, hanswers⟩ := hs
  refine SameChannels.keeps ⟨rfl, rfl, fun _ _ => Iff.rfl, rfl, rfl, rfl, id, rfl⟩ (fun h => ?_) (fun h => ?_) (fun h => ?_)
  · obtain ⟨⟨hdown, hup, hreq, -, hrep⟩, hw, -, -, hport, hmark, htx⟩ := h
    refine ⟨⟨hdown, hup, ?_, ?_, hrep⟩, hw, nofun, fun _ => rfl, fun hp => ?_, fun hany => hmark ?_, htx⟩
    · show s.requests.tail.length ≤ 4
      rw [List.length_tail]
      omega
    · show (s.answers ++ [_]).length ≤ 2
      rw [List.length_append, List.length_singleton]
      omega
    · exact absurd (hport hp).1 (by simp [hjob])
    · simpa [State.placeAnswer, List.any_append] using hany
  · obtain ⟨hwf, hrec, -, hprim⟩ := h
    exact ⟨hwf, hrec, rfl, hprim⟩
  · exact ⟨h.1, fun he => absurd he hengine⟩

theorem keeps_refuse (hs : Ready s) (r : Request) (st : Status) : Keeps F s (s.refuse r st) := keeps_placeAnswer hs r st []

/-- A request that does something and then is answered. -/
theorem Served.placeAnswer (h : Served F s t) (hs : Ready s) (r : Request) (st : Status) (l : List Byte) :
    Keeps F s (t.placeAnswer r st l) := h.keeps.trans (keeps_placeAnswer (h.ready hs) r st l)

theorem keeps_runCommand (hs : Ready s) (r : Request) (n : Nat) {b : Bool} {act : State → ChanId → Status × State}
    (hact : b = true → ∀ c, Served F s (act s c).2) : Keeps F s (s.runCommand r n b act) := by
  unfold State.runCommand
  split
  · split
    · split
      · next hb => exact (hact hb _).placeAnswer hs ..
      · exact keeps_placeAnswer hs ..
    · exact keeps_placeAnswer hs ..
  · exact keeps_placeAnswer hs ..

/-! ## Channel commands -/

/-! ### CONFIGURE -/

section
variable {α : Type} [DecidableEq α]

/-- A write is not seen at other entries, whatever the table. -/
theorem read_write_of_ne {d : α} {tb : Table α} {i j : Nat} (v : α) (h : j ≠ i) :
    Table.read d (Table.write d tb i v) j = Table.read d tb j := by
  induction tb with
  | nil =>
    rw [Table.write]
    split
    · rfl
    · simp [Table.read, h.symm]
  | cons e tb ih =>
    obtain ⟨k, w⟩ := e
    rw [Table.write]
    split
    · next hk => split <;> simp [Table.read, hk, h.symm]
    · split
      · split <;> simp [Table.read, h.symm]
      · simp only [Table.read, ih]

/-- A written record other than the unlisted one is read back, whatever the table. -/
theorem read_write_self {d : α} {tb : Table α} {i : Nat} {v : α} (h : v ≠ d) :
    Table.read d (Table.write d tb i v) i = v := by
  induction tb with
  | nil => simp [Table.write, Table.read, h]
  | cons e tb ih =>
    obtain ⟨k, w⟩ := e
    rw [Table.write]
    split
    · simp [Table.read]
    · next hk =>
      split
      · simp [Table.read]
      · simp [Table.read, hk, ih]

/-- A property that the unlisted record has not, and that an entry and whatever is written over it have. -/
theorem read_writeAll_of_all {d : α} {P : α → Prop} (hd : ¬ P d) {tb : Table α} {i j : Nat} {vs : List α}
    (hold : P (Table.read d tb j)) (hnew : ∀ m, m < vs.length → j = i + m → P (vs.getD m d)) :
    P (Table.read d (Table.writeAll d tb i vs) j) := by
  induction vs generalizing tb i with
  | nil => exact hold
  | cons v vs ih =>
    refine ih ?_ fun m hm hj => ?_
    · by_cases hj : j = i
      · have hv : P v := by simpa using hnew 0 (by simp) (by omega)
        rw [hj, read_write_self (by rintro rfl; exact hd hv)]
        exact hv
      · rw [read_write_of_ne v hj]
        exact hold
    · simpa using hnew (m + 1) (by simpa using hm) (by omega)

end

theorem keeps_writeConfig {k : ConfigRec} (hk : k.wf) (hoff : (s.chan c).state = .off) :
    Keeps F s { s with configTable := Table.write ConfigRec.reset s.configTable c.val k } := by
  have hcfg {x : ChanId} (hx : x ≠ c) :
      ({ s with configTable := Table.write ConfigRec.reset s.configTable c.val k } : State).cfg x = s.cfg x :=
    read_write_of_ne k (fun h => hx (Fin.ext h))
  refine ⟨rfl, id, fun h => ?_, id, fun _ => id, fun _ _ h => ?_, fun _ _ => id, fun _ _ h => ?_⟩
  · obtain ⟨hwf, ⟨hstep, hprogram, hsegment, hprofile, hlimit, hconfig⟩, hrest⟩ := h
    exact ⟨State.writeConfigTable_tablesWf hwf, ⟨hstep, hprogram, hsegment, hprofile, hlimit, forall_mem_write hconfig hk⟩,
      hrest⟩
  · obtain ⟨hquiet, hsince⟩ := h
    refine ⟨fun hr x hcase => hquiet hr x ?_, hsince⟩
    by_cases hx : x = c
    · exact .inl (by rw [hx, hoff]; decide)
    · rw [hcfg hx] at hcase
      exact hcase
  · obtain ⟨hconf, hinit⟩ := h
    refine ⟨fun x hon => ?_, hinit⟩
    have hx : x ≠ c := by
      rintro rfl
      exact hon hoff
    rw [State.limits, hcfg hx]
    exact hconf x hon

/-- No run of repeats is counted and the latch is clear (R14). -/
theorem latch_clear : false = true ↔ (0 : Nat) = 32 := by decide

theorem tracking_reset_ok (hoff : (s.chan c).state = .off) (h : accountsOk (s.chan c)) :
    accountsOk { s.chan c with track := Tracking.reset } := by
  obtain ⟨ha, ⟨-, -, -, hstop, -⟩, -, -, -, -, -, hcounts⟩ := h
  obtain ⟨-, -, -, hrefresh⟩ := hstop hoff
  exact ⟨ha, ⟨rfl, Nat.zero_le _, latch_clear, fun _ => ⟨rfl, rfl, rfl, hrefresh⟩, fun _ => rfl, rfl⟩, Nat.zero_le _, Nat.zero_le _,
    Nat.zero_le _, Nat.zero_le _, Nat.zero_le _, hcounts⟩

theorem served_cmdConfigure {k : ConfigRec} (hk : k.wf) (s : State) (c : ChanId) : Served F s (cmdConfigure k s c).2 := by
  unfold cmdConfigure
  split
  · next hoff =>
    split
    · exact .refl F s
    · refine ⟨(keeps_modTrack (fun _ => Tracking.reset) (tracking_reset_ok hoff)).trans (keeps_writeConfig hk ?_), rfl, rfl, rfl,
        rfl, rfl⟩
      simpa using hoff
  · exact .refl F s

/-! ### START -/

theorem start_inRange {a : Accounts} (h : a.inRange) : a.start.inRange := by
  obtain ⟨-, -, -, -, -, -, -, -, hqli, hqlo, heli, helo, -⟩ := h
  exact ⟨Nat.zero_le _, Nat.zero_le _, Nat.zero_le _, Nat.zero_le _, Nat.zero_le _, Nat.zero_le _, Nat.zero_le _,
    Nat.zero_le _, hqli, hqlo, heli, helo, by show (0 : Int).natAbs < 1000000; decide⟩

theorem keeps_doStart (hengine : s.engine ≠ .init) (hopen : (s.chan c).state = .off ∨ (s.chan c).state = .complete)
    (hconf : (s.cfg c).configured = true ∧ (s.limits c).valid = true) (sel idx : Nat) : Keeps F s (s.doStart c sel idx) := by
  rw [doStart_eq_after]
  have hoffer := (Offered.slot s c (cmd := .zero) (by decide) 0).nextSeq 0
  have hidle (_ : F) (hf : flightOk (s.chan c)) : (s.chan c).seq.inFlight = false := by
    refine idle_of_not_running hf ?_
    obtain h | h := hopen <;> rw [h] <;> decide
  refine MoveOk.keeps_begin ⟨fun h => ?_, fun _ hf => ?_, fun _ _ h => ?_, fun _ _ => hoffer.quiet rfl, hoffer.since,
    fun _ _ _ => .inr ⟨hengine, hconf⟩, fun _ _ he => absurd he hengine⟩ hidle rfl
  · obtain ⟨ha, ⟨-, -, -, -, haux⟩, hdup, hstale, hmiss, hgap, hcad, hlost, hsuper, hrep, -⟩ := h
    exact ⟨resetStep_inRange (start_inRange ha), ⟨rfl, Nat.zero_le _, latch_clear, nofun, haux⟩, hdup, hstale, hmiss, hgap, hcad,
      hlost, hoffer.superseded hsuper, hoffer.repeats.trans_le hrep, Nat.zero_le _⟩
  · refine flightOk_begun ?_ ?_ _ _ _
    · rfl
    · exact Nat.zero_le _
  · obtain ⟨-, -, -, -, hfault⟩ := h
    exact ⟨Nat.zero_le _, rfl, Nat.zero_lt_succ 63, fun _ => rfl, hfault⟩

theorem served_cmdStart (hengine : s.engine ≠ .init) (sel idx : Nat) (c : ChanId) : Served F s (cmdStart sel idx s c).2 := by
  unfold cmdStart
  split
  · next hopen =>
    split
    · exact .refl F s
    · next hconf =>
      split
      · exact .refl F s
      · split
        · have hkeep := keeps_doStart (F := F) hengine hopen (by simpa using hconf) sel idx
          rw [doStart_eq_after, after_joined] at hkeep ⊢
          exact .of_moved hkeep
        · exact .refl F s
  · exact .refl F s

/-! ### HOLD -/

theorem keeps_holdStep (hrun : (s.chan c).state = .running) (hidle : (s.chan c).seq.inFlight = false) :
    Keeps F s (s.holdStep c) := by
  rw [holdStep_eq_after]
  have hoffer := Offered.slot s c (cmd := .zero) (by decide) 0
  refine MoveOk.keeps_after (.of_offered hoffer (fun h => ?_) (fun _ hf => ?_) (fun _ _ h => ?_) fun _ _ => ?_)
    (fun _ _ => rfl) (fun _ _ _ => rfl)
  · exact accountsOk_of_offered hoffer h h.1 rfl nofun rfl rfl rfl
  · obtain ⟨⟨-, hclear⟩, ⟨hstep, hcopy⟩, hstack, -⟩ := hf
    have hsome := hstep hrun hidle
    exact ⟨⟨fun h => absurd (hidle.symm.trans h) (by decide), fun _ => hclear hidle⟩,
      ⟨nofun, fun h => ⟨.inr rfl, (hcopy h).2⟩⟩, hstack, fun _ => ⟨nofun, fun _ => hsome, fun _ => rfl⟩, nofun⟩
  · exact supervisionOk_of_state h (by rw [hrun]; decide) rfl
  · rw [hrun]
    decide

/-- What an ISOLATED channel holds for a transition or a step: nothing. -/
theorem isolated_idle {ch : Channel} (hf : flightOk ch) (hiso : ch.state = .isolated) :
    ch.seq.inFlight = false ∧ ch.seq.stepCopy = none ∧ ch.seq.resume = .transition := by
  obtain ⟨-, ⟨-, hcopy⟩, -, -, hres⟩ := id hf
  refine ⟨idle_of_not_running hf (by rw [hiso]; decide), ?_, hres hiso⟩
  rw [← Option.not_isSome_iff_eq_none]
  intro h
  simpa [hiso] using (hcopy h).1

theorem keeps_holdIsolated (hiso : (s.chan c).state = .isolated) : Keeps F s (s.holdIsolated c) := by
  rw [holdIsolated_eq_after]
  have hon : (s.chan c).state ≠ .off := by rw [hiso]; decide
  refine MoveOk.keeps_after ⟨fun h => ?_, fun _ hf => ?_, fun _ _ h => ?_, fun _ _ h _ => ?_, fun h => .inl ⟨h, rfl⟩,
    fun _ _ _ => .inl hon, fun _ _ _ ho => absurd ho hon⟩ (fun _ _ => rfl) (fun _ _ _ => rfl)
  · obtain ⟨ha, ⟨href, hcount, hlatch, -, haux⟩, hc⟩ := h
    exact ⟨ha, ⟨href, hcount, hlatch, nofun, haux⟩, hc⟩
  · obtain ⟨hin, hcopy, hres⟩ := isolated_idle hf hiso
    obtain ⟨⟨-, hclear⟩, -, hstack, -⟩ := hf
    have hnone : (s.chan c).seq.stepCopy.isSome ≠ true := by simp [hcopy]
    exact ⟨⟨fun h => absurd (hin.symm.trans h) (by decide), fun _ => hclear hin⟩, ⟨nofun, fun h => absurd h hnone⟩, hstack,
      fun _ => ⟨fun h => absurd (hres.symm.trans h) (by decide), fun h => absurd (hres.symm.trans h) (by decide),
        fun h => absurd h hnone⟩, nofun⟩
  · obtain ⟨hs, hl, -, -, hf⟩ := h
    exact ⟨hs, hl, Nat.zero_lt_succ 63, fun _ => rfl, hf⟩
  · exact h (.inl (by rw [hiso]; decide))

theorem served_cmdHold (s : State) (c : ChanId) : Served F s (cmdHold s c).2 := by
  unfold cmdHold
  split
  · next hrun =>
    split
    · next hfly =>
      dsimp only
      refine ⟨keeps_modSeq (s := s) (c := c) _ id (fun _ hf => ?_) rfl fun _ _ _ => rfl, rfl, rfl, rfl, rfl, rfl⟩
      obtain ⟨⟨hin, -⟩, hrest⟩ := hf
      exact ⟨⟨hin, fun h => absurd (hfly.symm.trans h) (by decide)⟩, hrest⟩
    · next hidle =>
      have hkeep := keeps_holdStep (F := F) hrun (Bool.eq_false_iff.mpr hidle)
      dsimp only
      rw [holdStep_eq_after] at hkeep ⊢
      exact .of_after hkeep
  · exact .refl F s
  · next hiso =>
    split
    · have hkeep := keeps_holdIsolated (F := F) hiso
      dsimp only
      rw [holdIsolated_eq_after] at hkeep ⊢
      exact .of_after hkeep
    all_goals exact .refl F s
  all_goals exact .refl F s

/-! ### RESUME -/

theorem keeps_doResume (hheld : (s.chan c).state = .held) (grace : Bool) : Keeps F s (s.doResume c grace) := by
  rw [doResume_eq_after]
  have hon : (s.chan c).state ≠ .off := by rw [hheld]; decide
  have hidle (hf : flightOk (s.chan c)) : (s.chan c).seq.inFlight = false := idle_of_not_running hf (by rw [hheld]; decide)
  have hzero (h : (s.chan c).supervisionOk) : (s.chan c).sup.recovery = 0 := h.2.2.2.1 (by rw [hheld]; decide)
  split
  · next hstep =>
    refine MoveOk.keeps_after ⟨fun h => ?_, fun _ hf => ?_, fun _ _ h => ?_, fun _ _ h _ => ?_, fun h => .inl ⟨h, rfl⟩,
      fun _ _ _ => .inl hon, fun _ _ _ ho => absurd ho hon⟩ (fun _ _ => rfl) (fun _ _ _ => rfl)
    · obtain ⟨ha, ⟨href, hcount, hlatch, -, haux⟩, hc⟩ := h
      exact ⟨ha, ⟨href, hcount, hlatch, nofun, haux⟩, hc⟩
    · have hin := hidle hf
      obtain ⟨⟨-, hclear⟩, ⟨-, hcopy⟩, hstack, hres, -⟩ := hf
      have hsome : (s.chan c).seq.stepCopy.isSome = true := (hres hheld).2.mp hstep
      exact ⟨⟨fun h => absurd (hin.symm.trans h) (by decide), fun _ => hclear hin⟩,
        ⟨fun _ _ => hsome, fun h => ⟨.inl rfl, (hcopy h).2⟩⟩, hstack, nofun, nofun⟩
    · obtain ⟨hs, hl, hr, -, hf⟩ := id h
      exact ⟨hs, hl, hr, fun _ => hzero h, hf⟩
    · exact h (.inl (by rw [hheld]; decide))
  · have hoffer := Offered.slot s c (cmd := .zero) (by decide) 0
    refine MoveOk.keeps_begin (.of_offered hoffer (fun h => ?_) (fun _ hf => ?_) (fun _ _ h => ?_) fun _ _ => hon)
      (fun _ => hidle) rfl
    · exact accountsOk_of_offered hoffer h (resetStep_inRange h.1) rfl nofun rfl rfl rfl
    · refine flightOk_begun ?_ ?_ _ _ _
      · rfl
      · exact hf.2.2.1.1
    · obtain ⟨hs, hl, hr, -, hf⟩ := id h
      exact ⟨hs, hl, hr, fun _ => hzero h, hf⟩

theorem served_cmdResume (grace : Bool) (s : State) (c : ChanId) : Served F s (cmdResume grace s c).2 := by
  unfold cmdResume
  split
  · next hheld =>
    split
    · exact .refl F s
    · have hkeep := keeps_doResume (F := F) hheld grace
      dsimp only
      rw [doResume_eq_after, after_joined] at hkeep ⊢
      split at hkeep
      · next h => rw [if_pos h]; exact .of_after hkeep
      · next h => rw [if_neg h]; exact .of_moved hkeep
  · exact .refl F s

/-! ### STOP -/

/-- The slot of a channel that stops. -/
theorem stopped_slot (s : State) (c : ChanId) (hq : quietOk (s.cfg c).shadow (s.chan c)) :
    (stoppedOff s c).sp.lastWord ≠ some .run := by
  have hoffer := Offered.slot s c (cmd := .zero) (by decide) 0
  intro hrun
  by_cases hdrive : (s.chan c).state = .running ∨ (s.chan c).state = .held
  · have hword : (s.slot c .zero 0 s.nextSince).lastWord = some .run := by
      simpa [stoppedOff, hdrive, Setpoint.lastWord] using hrun
    obtain ⟨hshadow, hold⟩ := hoffer.word hword
    exact hq (.inr (.inr hshadow)) hold
  · have hword : (s.chan c).sp.lastWord = some .run := by
      simpa [stoppedOff, hdrive, Setpoint.lastWord] using hrun
    exact hq (.inl fun h => hdrive (.inl h)) hword

theorem keeps_doStop (hon : (s.chan c).state ≠ .off) : Keeps F s (s.doStop c) := by
  rw [doStop_eq_after]
  have hoffer := Offered.slot s c (cmd := .zero) (by decide) 0
  refine MoveOk.keeps_leave ⟨fun h => ?_, fun _ hf => ?_, fun _ _ h => ?_, fun _ _ h _ => stopped_slot s c h, fun h => ?_,
    fun _ _ ho => absurd rfl ho, fun _ _ _ ho => absurd ho hon⟩ rfl
  · obtain ⟨ha, ⟨href, -, -, -, haux⟩, hdup, hstale, hmiss, hgap, hcad, hlost, hsuper, hrep, hcyc⟩ := h
    refine ⟨ha, ⟨href, Nat.zero_le _, latch_clear, fun _ => ⟨rfl, rfl, rfl, rfl⟩, haux⟩, hdup, hstale, hmiss, hgap, hcad, hlost,
      ?_, ?_, hcyc⟩
    · dsimp only [stoppedOff]
      split
      · exact hoffer.superseded hsuper
      · exact hsuper
    · dsimp only [stoppedOff]
      split
      · exact hoffer.repeats.trans_le hrep
      · exact hrep
  · obtain ⟨-, -, ⟨hstack, -⟩, -⟩ := hf
    exact ⟨⟨nofun, fun _ => ⟨rfl, rfl, rfl⟩⟩, ⟨nofun, nofun⟩, ⟨hstack, Nat.zero_le _⟩, nofun, nofun⟩
  · obtain ⟨hs, hl, hr, hzero, hf⟩ := h
    unfold Channel.supervisionOk stoppedOff
    dsimp only
    split
    · exact ⟨hs, hl, Nat.zero_lt_succ 63, fun _ => rfl, hf⟩
    · next hne => exact ⟨hs, hl, hr, fun _ => hzero hne, hf⟩
  · by_cases hdrive : (s.chan c).state = .running ∨ (s.chan c).state = .held
    · simp only [if_pos hdrive] at h ⊢
      exact hoffer.since h
    · simp only [if_neg hdrive] at h ⊢
      exact .inl ⟨h, trivial⟩

theorem served_cmdStop (s : State) (c : ChanId) : Served F s (cmdStop s c).2 := by
  unfold cmdStop
  split
  · exact .refl F s
  · next hon =>
    have hkeep := keeps_doStop (F := F) hon
    dsimp only
    rw [doStop_eq_after, State.leaveFetch, State.after_fetchQueue, State.after_port] at hkeep ⊢
    exact .of_moved hkeep

/-! ### JUMP -/

theorem keeps_jumpHeld (hheld : (s.chan c).state = .held) (idx : Nat) : Keeps F s (s.jumpHeld c idx) := by
  rw [jumpHeld_eq_after]
  have hon : (s.chan c).state ≠ .off := by rw [hheld]; decide
  have hidle (hf : flightOk (s.chan c)) : (s.chan c).seq.inFlight = false := idle_of_not_running hf (by rw [hheld]; decide)
  refine MoveOk.keeps_after ⟨fun h => h, fun _ hf => ?_, fun _ _ h => h, fun _ _ h => h, fun h => .inl ⟨h, rfl⟩,
    fun _ _ _ => .inl hon, fun _ _ _ ho => absurd ho hon⟩ (fun _ _ => rfl) fun _ hf hin => ?_
  · have hin := hidle hf
    obtain ⟨⟨-, hclear⟩, -, hstack, hres, -⟩ := hf
    have hnone : ¬ (if (s.chan c).seq.resume = .step then none else (s.chan c).seq.stepCopy).isSome = true := by
      split
      · nofun
      · next hne => exact fun h => hne ((hres hheld).2.mpr h)
    refine ⟨⟨fun h => absurd (hin.symm.trans h) (by decide), fun _ => hclear hin⟩,
      ⟨fun h => absurd (hheld.symm.trans h) (by decide), fun h => absurd h hnone⟩, hstack, fun _ => ⟨nofun, nofun,
        fun h => absurd h hnone⟩, fun _ => rfl⟩
  · exact absurd ((hidle hf).symm.trans hin) (by decide)

theorem served_cmdJump (idx : Nat) (s : State) (c : ChanId) : Served F s (cmdJump idx s c).2 := by
  unfold cmdJump
  split
  · next hrun =>
    split
    · exact .refl F s
    · next hidle =>
      have hkeep : Keeps F s ((s.stepEndCommand c).beginTransition c idx none) := by
        unfold State.stepEndCommand
        split <;> exact keeps_stepEnd_begin (fun _ => hrun) (Bool.eq_false_iff.mpr hidle) ..
      dsimp only
      rw [jumpRunning_eq_after, after_joined] at hkeep ⊢
      exact .of_moved hkeep
  · next hheld =>
    have hkeep := keeps_jumpHeld (F := F) hheld idx
    dsimp only
    rw [jumpHeld_eq_after] at hkeep ⊢
    exact .of_after hkeep
  all_goals exact .refl F s

/-! ### CLEAR_FAULT and CLEAR_TOTALS -/

theorem faultRecord_empty_ok : FaultRecord.empty.ok := by decide

theorem served_cmdClearFault (s : State) (c : ChanId) : Served F s (cmdClearFault s c).2 := by
  refine ⟨?_, rfl, rfl, rfl, rfl, rfl⟩
  rw [cmdClearFault_eq, State.setChan_eq_after]
  refine MoveOk.keeps_after ⟨fun h => h, fun _ h => h, fun _ _ h => ?_, fun _ _ h => h, fun h => .inl ⟨h, rfl⟩,
    fun _ _ h => .inl h, fun _ _ _ _ => rfl⟩ (fun _ _ => rfl) (fun _ _ _ => rfl)
  obtain ⟨hs, hl, hr, hz, -⟩ := h
  exact ⟨hs, hl, hr, hz, faultRecord_empty_ok⟩

theorem clearTotals_inRange {a : Accounts} (h : a.inRange) : a.clearTotals.inRange := by
  obtain ⟨hqs, hes, hts, hqi, hqo, hei, heo, htc, -⟩ := h
  exact ⟨hqs, hes, hts, hqi, hqo, hei, heo, htc, Nat.zero_le _, Nat.zero_le _, Nat.zero_le _, Nat.zero_le _,
    by show (0 : Int).natAbs < 1000000; decide⟩

theorem served_cmdClearTotals (s : State) (c : ChanId) : Served F s (cmdClearTotals s c).2 := by
  unfold cmdClearTotals
  split
  · exact ⟨keeps_modAcct _ clearTotals_inRange, rfl, rfl, rfl, rfl, rfl⟩
  · exact .refl F s

end Sys2Proof.Proofs
end

section
/-! Engine control keeps the invariants: power-on reset, the engine reset, the emergency stop and the counters that are cleared. -/

namespace Sys2Proof.Proofs

open Sys2Proof Sys2Proof.Machine

variable {F : Prop} {s t : State} {c : ChanId}

/-! ## Every channel changed alike -/

theorem mapped_chan (s : State) (f : Channel → Channel) (x : ChanId) :
    ({ s with channels := s.channels.map f } : State).chan x = f (s.chan x) := by
  simp [State.chan]

/-- What the invariants ask of a change of every channel that leaves transitions, states and supervision alone. -/
theorem keeps_mapChannels (f : Channel → Channel) (hacc : ∀ ch, accountsOk ch → accountsOk (f ch))
    (hstate : ∀ ch, (f ch).state = ch.state) (hsup : ∀ ch, (f ch).sup = ch.sup)
    (hseq : ∀ ch, (f ch).seq = { ch.seq with lostEval := (f ch).seq.lostEval })
    (hsp : ∀ ch, (f ch).sp.pending = ch.sp.pending ∧ (f ch).sp.since = ch.sp.since)
    (hword : s.resetN = true → ∀ ch, (f ch).sp.lastWord = ch.sp.lastWord) :
    Keeps F s { s with channels := s.channels.map f } := by
  have hfly (ch : Channel) : (f ch).seq.inFlight = ch.seq.inFlight := by rw [hseq]
  refine ⟨rfl, id, id, fun h x => ?_, fun _ h => ?_, fun _ _ h => ?_, fun _ _ h x => ?_, fun _ _ h => ?_⟩
  · rw [mapped_chan]
    exact hacc _ (h x)
  · obtain ⟨⟨hnodup, hmem⟩, hport, hlocal⟩ := h
    refine ⟨⟨hnodup, fun x => ?_⟩, (portOk_iff _).mpr fun x i hp => ?_, fun x => ?_⟩
    · rw [mapped_chan, hfly]
      exact hmem x
    · rw [mapped_chan, hseq]
      exact (portOk_iff s).mp hport x i hp
    · rw [mapped_chan]
      obtain ⟨hflight, hstep, hstack, hres⟩ := hlocal x
      unfold Channel.flightOk Channel.stepOk Channel.stackOk Channel.resumeOk
      rw [hstate, hseq]
      exact ⟨hflight, hstep, hstack, hres⟩
  · obtain ⟨hquiet, hsince, hinj⟩ := h
    refine ⟨fun hr x => ?_, fun x => ?_, fun x y => ?_⟩
    · rw [mapped_chan, hstate, hfly, hword hr]
      exact hquiet hr x
    · rw [mapped_chan, (hsp _).1, (hsp _).2]
      exact hsince x
    · rw [mapped_chan, mapped_chan, (hsp _).1, (hsp _).2, (hsp _).1, (hsp _).2]
      exact hinj x y
  · rw [mapped_chan]
    unfold Channel.supervisionOk
    rw [hsup, hstate]
    exact h x
  · obtain ⟨hconf, hclear, hinit⟩ := h
    refine ⟨fun x => ?_, hclear, fun he => ?_⟩
    · rw [mapped_chan, hstate]
      exact hconf x
    · obtain ⟨hoff, hrest⟩ := hinit he
      refine ⟨fun x => ?_, hrest⟩
      rw [mapped_chan, hstate]
      exact hoff x

theorem clearCounters_accountsOk {ch : Channel} (h : accountsOk ch) : accountsOk ch.clearCounters := by
  obtain ⟨ha, ht, -, -, -, -, -, -, -, -, hcyc⟩ := h
  exact ⟨ha, ht, Nat.zero_le _, Nat.zero_le _, Nat.zero_le _, Nat.zero_le _, Nat.zero_le _, Nat.zero_le _, Nat.zero_le _,
    Nat.zero_le _, hcyc⟩

theorem served_zeroCounters (s : State) : Served F s s.zeroCounters := by
  refine ⟨?_, rfl, rfl, rfl, rfl, rfl⟩
  have hmap : Keeps F s { s with channels := s.channels.map Channel.clearCounters } :=
    keeps_mapChannels _ (fun _ => clearCounters_accountsOk) (fun _ => rfl) (fun _ => rfl) (fun _ => rfl)
      (fun _ => ⟨rfl, rfl⟩) fun _ _ => rfl
  exact hmap.trans (SameChannels.keeps ⟨rfl, rfl, fun _ _ => Iff.rfl, rfl, rfl, rfl, id, rfl⟩ id id id)

/-! ## Power-on reset (R183) -/

theorem keeps_fallReset (s : State) : Keeps F s s.fallReset := by
  have hlow : Keeps F s { s with resetN := false, timeBase := 0, upTx := none, dnTx := none } :=
    SameChannels.keeps ⟨rfl, rfl, fun _ _ => Iff.rfl, rfl, rfl, rfl, nofun, rfl⟩
      (fun ⟨hq, hw, hbook, hreset, hport, hmark, _⟩ => ⟨hq, hw, hbook, hreset, hport, hmark, nofun⟩) id id
  exact hlow.trans (keeps_mapChannels (s := { s with resetN := false, timeBase := 0, upTx := none, dnTx := none })
    (fun ch => { ch with sp := { ch.sp with inTx := none } }) (fun _ h => h) (fun _ => rfl) (fun _ => rfl)
    (fun _ => rfl) (fun _ => ⟨rfl, rfl⟩) nofun)

theorem reset_chan (x : ChanId) : State.reset.chan x = Channel.reset := by
  simp [State.reset, State.chan]

theorem accountsOk_reset : accountsOk Channel.reset := by decide

theorem supervisionOk_reset : Channel.reset.supervisionOk := by decide

theorem flightOk_reset : flightOk Channel.reset := by decide

theorem keeps_powerOn (s : State) (addr : BitVec 4) (rate : Bool) : Keeps F s (s.powerOn addr rate) := by
  have hchan (x : ChanId) : (s.powerOn addr rate).chan x = Channel.reset := reset_chan x
  refine ⟨rfl, fun _ => ?_, fun h => ?_, fun _ x => ?_, fun _ _ => ?_, fun _ _ _ => ⟨fun _ x _ => ?_, fun x hx => ?_, fun x y hx => ?_⟩,
    fun _ _ _ x => ?_, fun _ _ _ => ⟨fun x hon => ?_, fun _ => rfl, fun _ => ⟨fun x => ?_, rfl, rfl, rfl, rfl⟩⟩⟩
  · exact ⟨⟨Nat.zero_le _, Nat.zero_le _, Nat.zero_le _, Nat.zero_le _, Nat.zero_le _, Nat.zero_le _, Nat.zero_le _⟩,
      ⟨Nat.zero_le _, fun _ => rfl⟩, nofun, nofun, nofun, nofun, nofun⟩
  · obtain ⟨hwf, hrec, -, hprim⟩ := h
    exact ⟨hwf, hrec, rfl, hprim⟩
  · rw [hchan]
    exact accountsOk_reset
  · refine ⟨⟨List.nodup_nil, fun x => ?_⟩, (portOk_iff _).mpr fun x i hp => (by cases hp), fun x => ?_⟩
    · rw [hchan]
      exact ⟨⟨nofun, fun h => by obtain h | h := h <;> cases h⟩, fun h => by cases h.1⟩
    · rw [hchan]
      exact flightOk_reset
  · rw [hchan]
    nofun
  · rw [hchan] at hx
    cases hx
  · rw [hchan] at hx
    cases hx
  · rw [hchan]
    exact supervisionOk_reset
  · rw [hchan] at hon
    exact absurd rfl hon
  · rw [hchan]
    rfl

/-! ## Engine reset (R101, R185) -/

/-- Channel `x` after the engine reset of `s`, when `n` is the place that its slot takes. -/
def resetOf (s : State) (x : ChanId) (n : Nat) : Channel :=
  { Channel.reset with
    sp :=
      if (s.chan x).state ≠ .off ∧ (s.cfg x).shadow = false then (s.chan x).sp.offerFinal (s.cfg x).stage n
      else Setpoint.reset }

theorem resetChannel_eq (s : State) (c : ChanId) :
    s.resetChannel c = { s with nextSince := s.nextSince + 1, channels := s.channels.set c.val (resetOf s c s.nextSince) } := rfl

theorem resetChannel_chan (s : State) (c x : ChanId) :
    (s.resetChannel c).chan x = if x = c then resetOf s c s.nextSince else s.chan x :=
  State.setChan_chan s c x _

/-- The engine reset of some channels, one after another: each takes its place in the pending-since order by its turn. -/
theorem foldl_resetChannel {l : List ChanId} (hl : l.Nodup) (s : State) :
    l.foldl State.resetChannel s =
      { s with nextSince := s.nextSince + l.length, channels := (l.foldl State.resetChannel s).channels } ∧
    ∀ x, (l.foldl State.resetChannel s).chan x = if x ∈ l then resetOf s x (s.nextSince + l.idxOf x) else s.chan x := by
  induction l generalizing s with
  | nil => exact ⟨rfl, fun x => by simp⟩
  | cons c l ih =>
    obtain ⟨hc, hl⟩ := List.nodup_cons.mp hl
    obtain ⟨hframe, hchan⟩ := ih hl (s.resetChannel c)
    refine ⟨?_, fun x => ?_⟩
    · rw [List.foldl_cons, List.length_cons]
      generalize l.foldl State.resetChannel (s.resetChannel c) = u at hframe ⊢
      refine hframe.trans ?_
      rw [resetChannel_eq, Nat.add_assoc, Nat.add_comm 1]
    · rw [List.foldl_cons, hchan]
      by_cases hx : x = c
      · subst hx
        rw [if_neg hc, resetChannel_chan]
        simp
      · have hsame (n : Nat) : resetOf (s.resetChannel c) x n = resetOf s x n := by
          unfold resetOf
          rw [resetChannel_chan, if_neg hx]
          rfl
        have hnext : (s.resetChannel c).nextSince + l.idxOf x = s.nextSince + (l.idxOf x + 1) := by
          rw [resetChannel_eq, Nat.add_assoc, Nat.add_comm 1]
        rw [hsame, resetChannel_chan, if_neg hx, List.idxOf_cons_ne _ (Ne.symm hx), hnext]
        simp [hx]

/-- Every channel at the engine reset. -/
theorem forChannels_resetChannel (s : State) :
    s.forChannels State.resetChannel =
      { s with nextSince := s.nextSince + 32, channels := (s.forChannels State.resetChannel).channels } ∧
    ∀ x, (s.forChannels State.resetChannel).chan x = resetOf s x (s.nextSince + allChannels.idxOf x) := by
  obtain ⟨hframe, hchan⟩ := foldl_resetChannel (List.nodup_finRange 32) s
  rw [List.length_finRange] at hframe
  exact ⟨hframe, fun x => (hchan x).trans (if_pos (List.mem_finRange x))⟩

theorem resetOf_accountsOk (s : State) (x : ChanId) (n : Nat) : accountsOk (resetOf s x n) := by
  obtain ⟨ha, ⟨href, hcount, hlatch, -, haux⟩, hdup, hstale, hmiss, hgap, hcad, hlost, -, -, hcyc⟩ := accountsOk_reset
  have hsp : (resetOf s x n).sp.refresh = none ∧ (resetOf s x n).sp.superseded = 0 ∧ (resetOf s x n).sp.repeats = 0 := by
    unfold resetOf
    dsimp only
    split <;> exact ⟨rfl, rfl, rfl⟩
  obtain ⟨hrefresh, hsuper, hrep⟩ := hsp
  exact ⟨ha, ⟨href, hcount, hlatch, fun _ => ⟨rfl, rfl, rfl, hrefresh⟩, haux⟩, hdup, hstale, hmiss, hgap, hcad, hlost,
    hsuper.trans_le (Nat.zero_le _), hrep.trans_le (Nat.zero_le _), hcyc⟩

theorem resetOf_lastWord (s : State) (x : ChanId) (n : Nat) : (resetOf s x n).sp.lastWord ≠ some .run := by
  unfold resetOf
  dsimp only
  split
  · rw [lastWord_of_pending rfl]
    nofun
  · nofun

/-- A slot that is pending at an engine reset keeps its place or takes its turn. -/
theorem resetOf_since {s : State} {x : ChanId} {n : Nat} (h : (resetOf s x n).sp.pending.isSome = true) :
    ((s.chan x).sp.pending.isSome = true ∧ (resetOf s x n).sp.since = (s.chan x).sp.since) ∨
      (resetOf s x n).sp.since = some n := by
  unfold resetOf at h ⊢
  dsimp only at h ⊢
  split
  · next hcase =>
    dsimp only [Setpoint.offerFinal]
    split
    · next hp => exact .inl ⟨hp, rfl⟩
    · exact .inr rfl
  · next hcase =>
    rw [if_neg hcase] at h
    cases h

theorem idxOf_allChannels_lt (x : ChanId) : allChannels.idxOf x < 32 := by
  have h := List.idxOf_lt_length_of_mem (List.mem_finRange x)
  rwa [List.length_finRange] at h

theorem idxOf_allChannels_inj {x y : ChanId} (h : allChannels.idxOf x = allChannels.idxOf y) : x = y :=
  (List.idxOf_inj (List.mem_finRange x)).mp h

/-- What an engine reset does besides the channels (R185). -/
def emptiedQueues (u : State) (p : PortState) : State :=
  { u with
    fetchQueue := [], port := p.atReset, portLast := .management
    reports := [], dropCount := 0, relayDown := [], relayUp := [], requests := [], answers := [], job := none
    resetPending := false, link := LinkCounters.reset, relayWait := 0, upServed := .relay
    timeBase := 0, engine := .init }

theorem emptiedQueues_chan (u : State) (p : PortState) (x : ChanId) : (emptiedQueues u p).chan x = u.chan x := rfl

theorem emptiedQueues_nextSince (u : State) (p : PortState) : (emptiedQueues u p).nextSince = u.nextSince := rfl

theorem engineReset_eq (s : State) : s.engineReset = (emptiedQueues (s.forChannels State.resetChannel) s.port).endInit := rfl

theorem atReset_ne_access {p : PortState} (h : p.atReset = .access) : p = .access := by
  cases p <;> simp_all [PortState.atReset]

theorem atReset_fetchesFor (p : PortState) (x : ChanId) : p.atReset.fetchesFor x = false := by
  cases p <;> rfl

/-- The premise is that of an answered RESET_ENGINE: the management unit is idle, so that no management access is in progress. -/
theorem keeps_emptiedQueues (hport : booksOk s → s.port ≠ .access) :
    Keeps F s (emptiedQueues (State.forChannels { s with upTx := none } State.resetChannel) s.port) := by
  obtain ⟨hframe, hreset⟩ := forChannels_resetChannel { s with upTx := none }
  generalize State.forChannels { s with upTx := none } State.resetChannel = u at hframe hreset ⊢
  have hchan (x : ChanId) : (emptiedQueues u s.port).chan x = resetOf s x (s.nextSince + allChannels.idxOf x) := hreset x
  have hnext : (emptiedQueues u s.port).nextSince = s.nextSince + 32 := by rw [emptiedQueues_nextSince, hframe]
  have hfetches (x : ChanId) : (emptiedQueues u s.port).port.fetchesFor x = false := atReset_fetchesFor ..
  refine ⟨by rw [hframe]; rfl, fun h => ?_, fun h => ?_, fun _ x => ?_, fun _ _ => ?_, fun _ _ h => ⟨fun _ x _ => ?_, ?_⟩, fun _ _ _ x => ?_,
    fun _ _ _ => ⟨fun x hon => ?_, fun _ => rfl, fun _ => ⟨fun x => ?_, rfl, rfl, rfl, rfl⟩⟩⟩
  · refine ⟨⟨Nat.zero_le _, Nat.zero_le _, Nat.zero_le _, Nat.zero_le _, Nat.zero_le _, Nat.zero_le _, Nat.zero_le _⟩,
      ⟨Nat.zero_le _, fun _ => rfl⟩, nofun, nofun, fun hp => absurd (atReset_ne_access hp) (hport h), nofun, ?_⟩
    rw [hframe]
    nofun
  · obtain ⟨hwf, hrec, -, hprim⟩ := h
    rw [hframe]
    exact ⟨hwf, hrec, rfl, hprim⟩
  · rw [hchan]
    exact resetOf_accountsOk ..
  · refine ⟨⟨List.nodup_nil, fun x => ?_⟩, (portOk_iff _).mpr fun x i hp => ?_, fun x => ?_⟩
    · rw [hchan, hfetches]
      exact ⟨⟨nofun, fun h => by obtain h | h := h <;> cases h⟩, fun h => by cases h.1⟩
    · have hfetch := (fetchesFor_iff _ _).mpr ⟨_, hp⟩
      rw [hfetches] at hfetch
      cases hfetch
    · rw [hchan]
      exact flightOk_reset
  · rw [hchan]
    exact resetOf_lastWord s x _
  · obtain ⟨-, hsince, hinj⟩ := h
    have hplace {x : ChanId} (hx : ((emptiedQueues u s.port).chan x).sp.pending.isSome = true) :
        ((s.chan x).sp.pending.isSome = true ∧ ∃ m, m < s.nextSince ∧ (s.chan x).sp.since = some m ∧
          ((emptiedQueues u s.port).chan x).sp.since = some m) ∨
        ((emptiedQueues u s.port).chan x).sp.since = some (s.nextSince + allChannels.idxOf x) := by
      rw [hchan] at hx ⊢
      obtain ⟨hpend, heq⟩ | heq := resetOf_since hx
      · obtain ⟨m, hm, hlt⟩ : ∃ m, (s.chan x).sp.since = some m ∧ m < s.nextSince := by
          simpa [Option.any_eq_true] using hsince x hpend
        exact .inl ⟨hpend, m, hlt, hm, heq.trans hm⟩
      · exact .inr heq
    refine ⟨fun x hx => ?_, fun x y hx hy heq => ?_⟩
    · have hidx := idxOf_allChannels_lt x
      obtain ⟨-, m, hlt, -, hm⟩ | hm := hplace hx <;> rw [hm, hnext, Option.any_some, decide_eq_true_eq] <;> omega
    · obtain ⟨hpx, m, hlt, hm, hmx⟩ | hmx := hplace hx <;> obtain ⟨hpy, k, hlk, hk, hky⟩ | hky := hplace hy <;>
        rw [hmx, hky, Option.some.injEq] at heq
      · exact hinj x y hpx hpy (by rw [hm, hk, heq])
      · omega
      · omega
      · exact idxOf_allChannels_inj (by omega)
  · rw [hchan]
    exact supervisionOk_reset
  · rw [hchan] at hon
    exact absurd rfl hon
  · rw [hchan]
    rfl

/-- The engine reset, when the transmission of its answer is over (R170, R185). -/
theorem keeps_engineReset (hreset : s.upTx.any (fun t => t.resets) = true) :
    Keeps F s (State.engineReset { s with upTx := none }) := by
  have hidle (h : booksOk s) : s.port ≠ .access := by
    obtain ⟨-, -, -, hpending, hport, -, htx⟩ := h
    intro hp
    have hjob := (hport hp).1
    rw [hpending (htx hreset)] at hjob
    cases hjob
  rw [engineReset_eq]
  exact (keeps_emptiedQueues hidle).trans (keeps_endInit _)

theorem keeps_completeUp (s : State) : Keeps F s s.completeUp := by
  unfold State.completeUp
  split
  · exact .refl F s
  · next t htx =>
    split
    · next hreset => exact keeps_engineReset (by rw [htx]; exact hreset)
    · refine SameChannels.keeps ⟨rfl, rfl, fun _ _ => Iff.rfl, rfl, rfl, rfl, id, rfl⟩ (fun h => ?_) id id
      obtain ⟨hq, hw, hbook, hreset, hport, hmark, -⟩ := h
      exact ⟨hq, hw, hbook, hreset, hport, hmark, nofun⟩

/-! ## Emergency stop (R186) -/

theorem keeps_fallEstop (s : State) : Keeps F s s.fallEstop := by
  unfold State.fallEstop
  split
  · next hready =>
    have hstop : Keeps F s { s with estopN := false, engine := .estop } := by
      refine SameChannels.keeps ⟨rfl, rfl, fun _ _ => Iff.rfl, rfl, rfl, rfl, id, rfl⟩ id id fun h => ⟨fun hc => ?_, nofun⟩
      exact absurd (hready.symm.trans (h.1 hc)) (by decide)
    exact hstop.trans (Keeps.foldl keeps_estopChannel allChannels _)
  all_goals exact SameChannels.keeps ⟨rfl, rfl, fun _ _ => Iff.rfl, rfl, rfl, rfl, id, rfl⟩ id id id

end Sys2Proof.Proofs
end

section
/-! The management requests, the routing of frames and with them every command keep the invariants; the seven statements
StepKeeps... follow. -/

namespace Sys2Proof.Proofs

open Sys2Proof Sys2Proof.Machine

variable {F : Prop} {s t : State} {c : ChanId}

/-- Either branch of a choice keeps the invariants. -/
theorem keeps_ite {p : Prop} [Decidable p] {a b : State} (ha : Keeps F s a) (hb : Keeps F s b) :
    Keeps F s (if p then a else b) := by
  split
  · exact ha
  · exact hb

/-! ## Table requests -/

/-- A table request comes into execution (R55, R158). -/
theorem keeps_startJob (hs : Ready s) (hreq : s.requests ≠ []) {j : TableJob} (hleft : 0 < j.left)
    (hend : j.index + j.left ≤ j.table.size) : Keeps F s { s with job := some j } := by
  obtain ⟨-, hjob, hpending, hanswers⟩ := hs
  refine SameChannels.keeps ⟨rfl, rfl, fun _ _ => Iff.rfl, rfl, rfl, rfl, id, rfl⟩ (fun h => ?_) (fun h => ?_) id
  · obtain ⟨hq, hw, -, -, hport, hmark⟩ := h
    refine ⟨hq, hw, fun _ => ⟨hreq, hanswers⟩, fun hp => absurd (hpending.symm.trans hp) (by decide), fun hp => ?_, hmark⟩
    exact absurd (hport hp).1 (by simp [hjob])
  · obtain ⟨hwf, hrec, -, hprim⟩ := h
    exact ⟨hwf, hrec, by simp [State.jobOk, hleft, hend], hprim⟩

theorem keeps_startPortRead (hs : Ready s) (hreq : s.requests ≠ []) (k : PortTable) (r : Request) :
    Keeps F s (s.startPortRead k r) := by
  unfold State.startPortRead
  split
  · exact keeps_refuse hs ..
  · split
    · next hrange =>
      simp only [Request.readRangeOk, Bool.and_eq_true, decide_eq_true_eq] at hrange
      obtain ⟨⟨hcount, -⟩, hend⟩ := hrange
      exact keeps_startJob hs hreq hcount hend
    · exact keeps_refuse hs ..

theorem keeps_startPortWrite (hs : Ready s) (hreq : s.requests ≠ []) (k : PortTable) (r : Request) :
    Keeps F s (s.startPortWrite k r) := by
  unfold State.startPortWrite
  split
  · split
    · next hrange =>
      simp only [Request.writeRangeOk, Bool.and_eq_true, decide_eq_true_eq] at hrange
      obtain ⟨⟨hcount, hend⟩, -⟩ := hrange
      exact keeps_startJob hs hreq hcount hend
    · exact keeps_refuse hs ..
  · exact keeps_refuse hs ..

theorem keeps_readImage (hs : Ready s) (r : Request) (size per : Nat) (image : Nat → List Byte) :
    Keeps F s (s.readImage r size per image) := by
  unfold State.readImage
  split
  · exact keeps_refuse hs ..
  · split
    · exact keeps_placeAnswer hs ..
    · exact keeps_refuse hs ..

theorem readRecords_length {α : Type} {read : List Byte → Option α} {size n : Nat} {l : List Byte} {rs : List α}
    (h : readRecords read size n l = some rs) : rs.length = n := by
  induction n generalizing l rs with
  | zero =>
    cases h
    rfl
  | succ n ih =>
    obtain ⟨r, rs, rfl⟩ : ∃ r rs', rs = r :: rs' := by
      cases rs with
      | nil =>
        rw [readRecords] at h
        split at h <;> cases h
      | cons r rs => exact ⟨r, rs, rfl⟩
    rw [readRecords_cons] at h
    rw [List.length_cons, ih h.2]

theorem readRecords_forall {α : Type} {P : α → Prop} {read : List Byte → Option α} (hread : ∀ b r, read b = some r → P r)
    {size n : Nat} {l : List Byte} {rs : List α} (h : readRecords read size n l = some rs) : ∀ r ∈ rs, P r := by
  induction n generalizing l rs with
  | zero =>
    cases h
    nofun
  | succ n ih =>
    cases rs with
    | nil => nofun
    | cons r rs =>
      rw [readRecords_cons] at h
      exact List.forall_mem_cons.mpr ⟨hread _ _ h.1, ih h.2⟩

/-- A limit set that a channel in use names stays valid through a write that is not refused with IN_USE (R103). -/
theorem limits_valid_of_notInUse {first : Nat} {sets : List LimitSet} (huse : s.limitInUse first sets = false)
    (hconf : (s.cfg c).configured = true) (hon : (s.chan c).state ≠ .off) (hvalid : (s.limits c).valid = true) :
    (Table.read LimitSet.reset (Table.writeAll LimitSet.reset s.limitTable first sets) (s.cfg c).limitSet).valid = true := by
  refine read_writeAll_of_all (P := fun x : LimitSet => x.valid = true) (by decide) hvalid fun m hm hset => ?_
  by_contra hnot
  have hin : s.limitInUse first sets = true := by
    refine List.any_eq_true.mpr ⟨c, List.mem_finRange c, ?_⟩
    simp only [hconf, Bool.true_and, Bool.and_eq_true, bne_iff_ne]
    refine ⟨hon, List.any_eq_true.mpr ⟨m, List.mem_range.mpr hm, ?_⟩⟩
    simpa [hset] using hnot
  rw [huse] at hin
  cases hin

theorem keeps_writeLimitTable {first : Nat} {sets : List LimitSet} (hend : first + sets.length ≤ 16)
    (hwf : ∀ l ∈ sets, l.wf) (huse : s.limitInUse first sets = false) :
    Keeps F s { s with limitTable := Table.writeAll LimitSet.reset s.limitTable first sets } := by
  refine ⟨rfl, id, fun h => ?_, id, fun _ => id, fun _ _ => id, fun _ _ => id, fun _ _ h => ?_⟩
  · obtain ⟨htables, ⟨hstep, hprogram, hsegment, hprofile, hlimit, hconfig⟩, hrest⟩ := h
    exact ⟨State.writeLimitTable_tablesWf htables hend,
      ⟨hstep, hprogram, hsegment, hprofile, forall_mem_writeAll hlimit hwf, hconfig⟩, hrest⟩
  · obtain ⟨hconf, hinit⟩ := h
    refine ⟨fun x hon => ?_, hinit⟩
    obtain ⟨hcfg, hvalid⟩ := hconf x hon
    exact ⟨hcfg, limits_valid_of_notInUse huse hcfg hon hvalid⟩

theorem keeps_writeLimits (hs : Ready s) (r : Request) : Keeps F s (s.writeLimits r) := by
  unfold State.writeLimits
  split
  · split
    · split
      · exact keeps_refuse hs ..
      · next sets hsets =>
        split at hsets
        · next hrange =>
          simp only [Request.writeRangeOk, Bool.and_eq_true, decide_eq_true_eq] at hrange
          split
          · exact keeps_refuse hs ..
          · next huse =>
            have hkeep : Keeps F s { s with limitTable := Table.writeAll LimitSet.reset s.limitTable r.first sets } :=
              keeps_writeLimitTable (by rw [readRecords_length hsets]; exact hrange.2)
                (readRecords_forall (fun _ _ => readLimit_wf) hsets) (Bool.eq_false_iff.mpr huse)
            exact Served.placeAnswer ⟨hkeep, rfl, rfl, rfl, rfl, rfl⟩ hs ..
        · cases hsets
    · exact keeps_refuse hs ..
  · exact keeps_refuse hs ..

theorem keeps_writeAccept (hs : Ready s) (r : Request) : Keeps F s (s.writeAccept r) := by
  unfold State.writeAccept
  split
  · split
    · exact keeps_refuse hs ..
    · next entries hentries =>
      split at hentries
      · next hrange =>
        simp only [Request.writeRangeOk, Bool.and_eq_true, decide_eq_true_eq] at hrange
        split
        · exact keeps_refuse hs ..
        · split
          · exact keeps_refuse hs ..
          · next hconflict =>
            have hkeep : Keeps F s
                { s with acceptTable := Table.writeAll AcceptEntry.reset s.acceptTable r.first entries } := by
              refine SameChannels.keeps ⟨rfl, rfl, fun _ _ => Iff.rfl, rfl, rfl, rfl, id, rfl⟩ id (fun h => ?_) id
              obtain ⟨htables, hrec, hjob, -⟩ := h
              exact ⟨State.writeAcceptTable_tablesWf htables (by rw [readRecords_length hentries]; exact hrange.2), hrec, hjob,
                Bool.eq_false_iff.mpr hconflict⟩
            exact Served.placeAnswer ⟨hkeep, rfl, rfl, rfl, rfl, rfl⟩ hs ..
      · cases hentries
  · exact keeps_refuse hs ..

/-! ## Engine commands and read-back -/

theorem keeps_withLength (hs : Ready s) (r : Request) (n : Nat) {f : State} (h : Keeps F s f) :
    Keeps F s (s.withLength r n f) := by
  unfold State.withLength
  split
  · exact h
  · exact keeps_refuse hs ..

theorem keeps_readOfChannel (hs : Ready s) (r : Request) (results : ChanId → List Byte) :
    Keeps F s (s.readOfChannel r results) := by
  refine keeps_withLength hs r 1 ?_
  split
  · exact keeps_placeAnswer hs ..
  · exact keeps_refuse hs ..

theorem keeps_answerReset (hs : Ready s) (r : Request) : Keeps F s (s.answerReset r) := by
  obtain ⟨hengine, hjob, -, hanswers⟩ := hs
  refine SameChannels.keeps ⟨rfl, rfl, fun _ _ => Iff.rfl, rfl, rfl, rfl, id, rfl⟩ (fun h => ?_) (fun h => ?_) (fun h => ?_)
  · obtain ⟨⟨hdown, hup, hreq, -, hrep⟩, hw, -, -, hport, -, -⟩ := h
    refine ⟨⟨hdown, hup, ?_, ?_, hrep⟩, hw, nofun, fun _ => rfl, fun hp => ?_, fun _ => rfl, fun _ => rfl⟩
    · show s.requests.tail.length ≤ 4
      rw [List.length_tail]
      omega
    · show (s.answers ++ [_]).length ≤ 2
      rw [List.length_append, List.length_singleton]
      omega
    · exact absurd (hport hp).1 (by simp [hjob])
  · obtain ⟨hwf, hrec, -, hprim⟩ := h
    exact ⟨hwf, hrec, rfl, hprim⟩
  · exact ⟨h.1, fun he => absurd he hengine⟩

/-- CLEAR_ESTOP answers outside INIT with the engine outside INIT (R187). -/
theorem keeps_answerWithEngine (hs : Ready s) {e : EngineState} (he : e ≠ .init) (r : Request) :
    Keeps F s (State.placeAnswer { s with engine := e } r .ok []) := by
  have hset : Keeps F s { s with engine := e } :=
    SameChannels.keeps ⟨rfl, rfl, fun _ _ => Iff.rfl, rfl, rfl, rfl, id, rfl⟩ id id fun h =>
      ⟨fun hc => absurd (h.1 hc) hs.engine, fun hinit => absurd hinit he⟩
  exact hset.trans (keeps_placeAnswer (s := { s with engine := e }) ⟨he, hs.job, hs.resetPending, hs.answers⟩ r .ok [])

theorem keeps_clearEstop (hs : Ready s) (r : Request) : Keeps F s (reqClearEstop s r) := by
  unfold reqClearEstop
  refine keeps_ite (keeps_ite (keeps_answerWithEngine hs ?_ r) (keeps_refuse hs ..)) (keeps_refuse hs ..)
  have hne := hs.engine
  cases hengine : s.engine <;> simp_all

/-! ## Every request row -/

theorem keeps_runRow (hs : Ready s) (hreq : s.requests ≠ []) (row : RequestRow) (r : Request) : Keeps F s (runRow row s r) := by
  cases row with
  | unknownRequest => exact keeps_refuse hs ..
  | identify => exact keeps_withLength hs r 0 (keeps_placeAnswer hs r .ok s.identity)
  | readTableStep | readTableProgram | readTableProfileSeg | readTableProfile => exact keeps_startPortRead hs hreq ..
  | readTableLimit => exact keeps_readImage hs r _ _ (fun i => limitBytes (s.limitSet i))
  | readTableAccept => exact keeps_readImage hs r _ _ (fun i => acceptBytes (s.acceptEntry i))
  | readTableConfig => exact keeps_readImage hs r _ _ (fun i => configBytes (Table.read ConfigRec.reset s.configTable i))
  | readTableUndefinedTable =>
    unfold runRow reqReadTableUndefinedTable
    exact keeps_ite (keeps_refuse hs ..) (keeps_refuse hs ..)
  | writeTableStep | writeTableProgram | writeTableProfileSeg | writeTableProfile => exact keeps_startPortWrite hs hreq ..
  | writeTableLimit => exact keeps_writeLimits hs r
  | writeTableAccept => exact keeps_writeAccept hs r
  | writeTableConfig => exact keeps_refuse hs ..
  | writeTableUndefinedTable =>
    unfold runRow reqWriteTableUndefinedTable
    exact keeps_ite (keeps_refuse hs ..) (keeps_refuse hs ..)
  | configure =>
    refine keeps_runCommand hs r _ fun hread c => served_cmdConfigure ?_ s c
    obtain ⟨k, hk⟩ := Option.isSome_iff_exists.mp hread
    rw [hk]
    exact readConfig_wf hk
  | start => exact keeps_runCommand hs r _ fun _ c => served_cmdStart hs.engine _ _ c
  | hold => exact keeps_runCommand hs r _ fun _ c => served_cmdHold s c
  | resume => exact keeps_runCommand hs r _ fun _ c => served_cmdResume _ s c
  | stop => exact keeps_runCommand hs r _ fun _ c => served_cmdStop s c
  | jump => exact keeps_runCommand hs r _ fun _ c => served_cmdJump _ s c
  | clearFault => exact keeps_runCommand hs r _ fun _ c => served_cmdClearFault s c
  | clearTotals => exact keeps_runCommand hs r _ fun _ c => served_cmdClearTotals s c
  | undefinedChannelCommand =>
    unfold runRow reqUndefinedChannelCommand
    exact keeps_ite (keeps_placeAnswer hs ..) (keeps_placeAnswer hs ..)
  | readChannel => exact keeps_readOfChannel hs r fun c => channelBytes c (s.cfg c).configured (s.chan c)
  | readAccounts => exact keeps_readOfChannel hs r fun c => accountBytes c (s.chan c).acct
  | readFault => exact keeps_readOfChannel hs r fun c => faultBytes c (s.chan c).sup.fault
  | readCounters => exact keeps_withLength hs r 0 (keeps_placeAnswer hs r .ok (counterBytes s.link))
  | clearCounters => exact keeps_withLength hs r 0 ((served_zeroCounters s).placeAnswer hs r .ok [])
  | resetEngine =>
    unfold runRow reqResetEngine
    exact keeps_ite (keeps_answerReset hs r) (keeps_refuse hs ..)
  | clearEstop => exact keeps_clearEstop hs r
  | undefinedEngineCommand =>
    unfold runRow reqUndefinedEngineCommand
    exact keeps_ite (keeps_refuse hs ..) (keeps_refuse hs ..)

/-- When a request is due (R158, R170). -/
theorem ready_of_dueRequest {r : Request} (h : s.dueRequest = some r) : Ready s ∧ s.requests ≠ [] := by
  unfold State.dueRequest at h
  split at h
  · next hdue =>
    simp only [Bool.and_eq_true, bne_iff_ne, Bool.not_eq_true', decide_eq_true_eq, Option.isNone_iff_eq_none] at hdue
    obtain ⟨⟨⟨⟨-, hengine⟩, hjob⟩, hpending⟩, hanswers⟩ := hdue
    exact ⟨⟨hengine, hjob, hpending, hanswers⟩, fun hnil => by simp [hnil] at h⟩
  · cases h

theorem keeps_runDue (s : State) : Keeps F s s.runDue := by
  unfold State.runDue
  split
  · next r h =>
    obtain ⟨hs, hreq⟩ := ready_of_dueRequest h
    exact keeps_runRow hs hreq r.row r
  · exact .refl F s

theorem keeps_settleRequests (s : State) : Keeps F s s.settleRequests := (keeps_runDue s).trans (keeps_runDue _)

theorem keeps_settle (s : State) : Keeps F s s.settle := (keeps_settleRequests s).trans (keeps_portDue _)

/-! ## Links (R140 to R147) -/

/-- A change of nothing that an invariant speaks of. -/
theorem keeps_countLink (s : State) (f : LinkCounters → LinkCounters) : Keeps F s (s.countLink f) :=
  SameChannels.keeps ⟨rfl, rfl, fun _ _ => Iff.rfl, rfl, rfl, rfl, id, rfl⟩ id id id

theorem keeps_setRx (s : State) (p : Port) (x : RxState) : Keeps F s (s.setRx p x) := by
  cases p <;> exact SameChannels.keeps ⟨rfl, rfl, fun _ _ => Iff.rfl, rfl, rfl, rfl, id, rfl⟩ id id id

theorem keeps_counted (s : State) (f : LinkCounters → LinkCounters) (p : Port) (x : RxState) :
    Keeps F s ((s.countLink f).setRx p x) := (keeps_countLink s f).trans (keeps_setRx _ p x)

theorem keeps_relayDownJoin (s : State) (f : Frame) : Keeps F s (s.relayDownJoin f) := by
  unfold State.relayDownJoin
  split
  · next hroom =>
    refine SameChannels.keeps ⟨rfl, rfl, fun _ _ => Iff.rfl, rfl, rfl, rfl, id, rfl⟩ (fun h => ?_) id id
    obtain ⟨⟨-, hq⟩, ⟨hwait, -⟩, hbook⟩ := h
    refine ⟨⟨?_, hq⟩, ⟨hwait, fun hnil => ?_⟩, hbook⟩
    · show (s.relayDown ++ [f]).length ≤ 8
      rw [List.length_append, List.length_singleton]
      exact hroom
    · exact absurd hnil (List.append_ne_nil_of_right_ne_nil _ (List.cons_ne_nil f []))
  · exact keeps_countLink s _

theorem keeps_relayUpJoin (s : State) (f : Frame) : Keeps F s (s.relayUpJoin f) := by
  unfold State.relayUpJoin
  split
  · next hroom =>
    refine SameChannels.keeps ⟨rfl, rfl, fun _ _ => Iff.rfl, rfl, rfl, rfl, id, rfl⟩ (fun h => ?_) id id
    obtain ⟨⟨hdown, -, hq⟩, hrest⟩ := h
    refine ⟨⟨hdown, ?_, hq⟩, hrest⟩
    show (s.relayUp ++ [f]).length ≤ 16
    rw [List.length_append, List.length_singleton]
    exact hroom
  · exact keeps_countLink s _

theorem keeps_routeRequest (s : State) (payload : List Byte) : Keeps F s (s.routeRequest payload) := by
  unfold State.routeRequest
  split
  · split
    · next hroom =>
      obtain ⟨hengine, hlen⟩ := hroom
      refine SameChannels.keeps ⟨rfl, rfl, fun _ _ => Iff.rfl, rfl, rfl, rfl, id, rfl⟩ (fun h => ?_) id fun h => ⟨h.1, fun he => ?_⟩
      · obtain ⟨⟨hdown, hup, -, hq⟩, hw, hbook, hrest⟩ := h
        refine ⟨⟨hdown, hup, ?_, hq⟩, hw, fun hj => ⟨?_, (hbook hj).2⟩, hrest⟩
        · show (s.requests ++ [_]).length ≤ 4
          rw [List.length_append, List.length_singleton]
          exact hlen
        · exact List.append_ne_nil_of_right_ne_nil _ (List.cons_ne_nil _ [])
      · exact absurd he hengine
    · exact keeps_countLink s _
  all_goals exact keeps_countLink s _

theorem keeps_routeUp (s : State) (f : Frame) : Keeps F s (s.routeUp f) := by
  unfold State.routeUp
  split
  · exact keeps_ite (keeps_routeRequest ..) (keeps_relayDownJoin ..)
  · exact keeps_ite (keeps_countLink ..) (keeps_relayDownJoin ..)
  · exact keeps_ite (keeps_countLink ..) (keeps_relayDownJoin ..)
  all_goals exact keeps_relayDownJoin ..

theorem keeps_routeDn (s : State) (f : Frame) : Keeps F s (s.routeDn f) := by
  unfold State.routeDn
  split
  · split
    · exact keeps_useClaimed ..
    · exact keeps_relayUpJoin ..
  all_goals exact keeps_relayUpJoin ..

theorem keeps_strayZero (s : State) (p : Port) : Keeps F s (s.strayZero p) := by
  unfold State.strayZero
  split
  · exact keeps_counted ..
  all_goals exact .refl F s

theorem keeps_reception {f : State → State} (s : State) (p : Port) (h : Keeps F s (f s)) : Keeps F s (s.reception p f) := by
  unfold State.reception
  split
  · exact keeps_strayZero s p
  all_goals exact h

theorem keeps_frameAt {route : State → Frame → State} (hroute : ∀ s f, Keeps F s (route s f)) (s : State) (p : Port)
    (f : Frame) : Keeps F s (s.frameAt p f route) := by
  unfold State.frameAt
  exact keeps_ite (keeps_counted ..) (keeps_ite ((keeps_setRx ..).trans (hroute _ f)) (keeps_counted ..))

/-! ## Every command -/

theorem keeps_event {f : State → State} (s : State) (h : ∀ s, Keeps F s (f s)) : Keeps F s (s.event f) := by
  unfold State.event
  exact keeps_ite (.refl F s) ((keeps_settle s).trans (h _))

/-- An outcome that is a next state keeping the invariants. -/
def KeepsNext (F : Prop) (s : State) (o : Host.Outcome State Fault Refusal) : Prop := ∃ t, o = .next t ∧ Keeps F s t

theorem KeepsNext.of_keeps {t : State} (h : Keeps F s t) : KeepsNext F s (.next t) := ⟨t, rfl, h⟩

theorem keepsNext_execRow (s : State) (row : RequestRow) {f : State → Request → State} (hf : ∀ s r, f s r = runRow row s r) :
    KeepsNext F s (execRow row f s) := by
  unfold execRow
  split
  · next r h =>
    split
    · obtain ⟨hs, hreq⟩ := ready_of_dueRequest h
      rw [hf]
      exact .of_keeps (keeps_runRow hs hreq row r)
    · exact .of_keeps (keeps_settle s)
  · exact .of_keeps (keeps_settle s)

/-- A change of a line's level. -/
theorem keeps_levels (s : State) (estop maint : Bool) : Keeps F s { s with estopN := estop, maint := maint } :=
  SameChannels.keeps ⟨rfl, rfl, fun _ _ => Iff.rfl, rfl, rfl, rfl, id, rfl⟩ id id id

theorem keepsNext_exec (i : Instr) (s : State) : KeepsNext F s (exec i s) := by
  cases i with
  | upFrameReceived f => exact .of_keeps (keeps_event s fun s => keeps_reception s _ (keeps_frameAt keeps_routeUp s _ f))
  | dnFrameReceived f => exact .of_keeps (keeps_event s fun s => keeps_reception s _ (keeps_frameAt keeps_routeDn s _ f))
  | framingError p cause =>
    refine .of_keeps (keeps_event s fun s => ?_)
    cases cause with
    | stopBit | truncated => exact keeps_reception s p (keeps_counted ..)
    | strayZero => exact keeps_strayZero s p
  | malformedHeader p byte0 len =>
    exact .of_keeps (keeps_event s fun s => keeps_ite (keeps_reception s p (keeps_counted ..)) (.refl F s))
  | receiverArmed p =>
    refine .of_keeps (keeps_event s fun s => ?_)
    split
    · exact keeps_setRx ..
    all_goals exact .refl F s
  | upCrcError => exact .of_keeps (keeps_event s fun s => keeps_reception s _ (keeps_counted ..))
  | silenceExpiry c => exact .of_keeps (keeps_event s fun s => keeps_silenceExpire s c)
  | auxFreshnessExpiry c => exact .of_keeps (keeps_event s fun s => keeps_auxExpire s c)
  | refreshExpiry c => exact .of_keeps (keeps_event s fun s => keeps_refreshExpire s c)
  | timeBaseTick => exact .of_keeps (keeps_event s keeps_tick)
  | fetchStart =>
    refine .of_keeps (keeps_ite (.refl F s) ?_)
    have hport := (keeps_settleRequests (F := F) s).trans (keeps_portDue _)
    split
    · next h =>
      unfold State.portDue at hport
      rw [h] at hport
      exact hport
    all_goals exact keeps_settle s
  | fetchComplete => exact .of_keeps (keeps_event s keeps_completeFetch)
  | managementAccessStart =>
    refine .of_keeps (keeps_ite (.refl F s) ?_)
    split
    · next h => exact (keeps_settleRequests s).trans (keeps_startAccess h)
    all_goals exact keeps_settle s
  | managementAccessComplete => exact .of_keeps (keeps_event s keeps_completeAccess)
  | dnTransmitStart => exact .of_keeps (keeps_event s keeps_startDn)
  | dnTransmitComplete => exact .of_keeps (keeps_event s keeps_completeDn)
  | upTransmitStart => exact .of_keeps (keeps_event s keeps_startUp)
  | upTransmitComplete => exact .of_keeps (keeps_event s keeps_completeUp)
  | tableClearComplete => exact .of_keeps (keeps_event s keeps_clearTables)
  | resetNFall => exact .of_keeps (keeps_ite (.refl F s) (keeps_fallReset s))
  | resetNRelease addr rate => exact .of_keeps (keeps_ite (keeps_powerOn s addr rate) (.refl F s))
  | estopNFall =>
    exact .of_keeps (keeps_ite (keeps_levels s _ _)
      (keeps_ite ((keeps_settle s).trans (keeps_fallEstop _)) (keeps_settle s)))
  | estopNRise => exact .of_keeps (keeps_ite (keeps_levels s _ _) ((keeps_settle s).trans (keeps_levels _ _ _)))
  | maintChange level => exact .of_keeps (keeps_ite (keeps_levels s _ _) ((keeps_settle s).trans (keeps_levels _ _ _)))
  | _ => exact keepsNext_execRow s _ fun _ _ => rfl

/-- What a step keeps, but for the command that it takes from the front of the queue. -/
theorem keeps_step (h : step s = .next t) : ∃ rest, Keeps F { s with pending := rest } t := by
  unfold step at h
  split at h
  · cases h
    exact ⟨s.pending, .refl F s⟩
  · next i rest _ =>
    obtain ⟨u, hu, hkeep⟩ := keepsNext_exec (F := F) i { s with pending := rest }
    obtain rfl : u = t := by simpa using hu.symm.trans h
    exact ⟨rest, hkeep⟩

/-! ## The statements -/

/-- Settles O3: every arm of `exec` answers a next state, and what leads to it leaves the waiting commands alone. -/
theorem everyCommandCompletes : Obligations.EveryCommandCompletes := fun i s => by
  obtain ⟨t, ht, hkeep⟩ := keepsNext_exec (F := True) i s
  exact ⟨t, ht, hkeep.pending⟩

/-- Settles O54. -/
theorem stepKeepsQueues : Obligations.StepKeepsQueues := fun s t h hstep => by
  obtain ⟨rest, hkeep⟩ := keeps_step (F := True) hstep
  exact hkeep.books h

/-- Settles O55. -/
theorem stepKeepsFlights : Obligations.StepKeepsFlights := fun s t h hstep => by
  obtain ⟨rest, hkeep⟩ := keeps_step hstep
  exact hkeep.flights trivial h

/-- Settles O56. -/
theorem stepKeepsSlots : Obligations.StepKeepsSlots := fun s t hf h hstep => by
  obtain ⟨rest, hkeep⟩ := keeps_step hstep
  exact hkeep.slots trivial hf h

/-- Settles O57. -/
theorem stepKeepsSupervision : Obligations.StepKeepsSupervision := fun s t hf h hstep => by
  obtain ⟨rest, hkeep⟩ := keeps_step hstep
  exact hkeep.supervision trivial hf h

/-- Settles O58. -/
theorem stepKeepsAccounts : Obligations.StepKeepsAccounts := fun s t h hstep => by
  obtain ⟨rest, hkeep⟩ := keeps_step (F := True) hstep
  exact hkeep.accounts h

/-- Settles O59. -/
theorem stepKeepsTables : Obligations.StepKeepsTables := fun s t h hstep => by
  obtain ⟨rest, hkeep⟩ := keeps_step (F := True) hstep
  exact hkeep.tables h

/-- Settles O60. -/
theorem stepKeepsConfiguration : Obligations.StepKeepsConfiguration := fun s t hf h hstep => by
  obtain ⟨rest, hkeep⟩ := keeps_step hstep
  exact hkeep.configuration trivial hf h

end Sys2Proof.Proofs
end

section
/-! The block as a whole: a step and its front command, the state after power-on reset, the table of offers, and the due work that
runs before any other event. -/

namespace Sys2Proof.Proofs

open Sys2Proof Sys2Proof.Machine

variable {F : Prop} {s t : State}

/-- Settles O1: both clauses are the two branches of `step`. -/
theorem stepTakesFrontCommand : Obligations.StepTakesFrontCommand :=
  ⟨fun _ _ _ => rfl, fun s h => by rw [step, h]⟩

/-! ## Power-on reset -/

theorem reset_fetchesFor (x : ChanId) : State.reset.port.fetchesFor x = false := rfl

theorem reset_flightsOk : State.reset.flightsOk := by
  refine ⟨⟨List.nodup_nil, fun x => ?_⟩, rfl, fun x => ?_⟩
  · rw [reset_chan, reset_fetchesFor]
    exact ⟨⟨nofun, fun h => by obtain h | h := h <;> cases h⟩, fun h => by cases h.1⟩
  · rw [reset_chan]
    exact flightOk_reset

theorem reset_booksOk : booksOk State.reset :=
  ⟨⟨Nat.zero_le _, Nat.zero_le _, Nat.zero_le _, Nat.zero_le _, Nat.zero_le _, Nat.zero_le _, Nat.zero_le _⟩,
    ⟨Nat.zero_le _, fun _ => rfl⟩, nofun, nofun, nofun, nofun, nofun⟩

theorem reset_recordsOk : State.reset.recordsOk := by
  refine ⟨?_, ?_, ?_, ?_, ?_, ?_⟩ <;> exact fun _ h => absurd h List.not_mem_nil

theorem reset_tablesOk : tablesOk State.reset := ⟨State.reset_tablesWf, reset_recordsOk, rfl, acceptConflict_nil⟩

theorem reset_slotsOk : State.reset.quietSlots ∧ State.reset.sinceOk := by
  refine ⟨fun _ x _ => ?_, fun x hx => ?_, fun x y hx => ?_⟩
  · rw [reset_chan]
    nofun
  · rw [reset_chan] at hx
    cases hx
  · rw [reset_chan] at hx
    cases hx

theorem reset_configuration : State.reset.configured ∧ State.reset.initOk := by
  refine ⟨fun x hon => ?_, fun _ => rfl, fun _ => ⟨fun x => ?_, rfl, rfl, rfl, rfl⟩⟩
  · rw [reset_chan] at hon
    exact absurd rfl hon
  · rw [reset_chan]
    rfl

theorem reset_safe : State.reset.safe := by
  refine ⟨reset_booksOk, reset_flightsOk, reset_slotsOk, fun x => ?_, fun x => ?_, fun x => ?_, reset_tablesOk,
    reset_configuration⟩ <;> rw [reset_chan]
  · exact supervisionOk_reset
  · exact accountsOk_reset.1
  · exact accountsOk_reset.2

/-- Settles O2: the fields by definition, the tables as empty ones. -/
theorem resetIsSafe : Obligations.ResetIsSafe :=
  ⟨reset_safe, rfl, rfl, rfl, rfl, rfl, rfl, rfl, rfl, rfl, rfl, rfl, rfl, rfl, rfl, rfl, rfl, rfl, rfl, rfl, rfl, rfl, rfl,
    rfl, rfl, rfl, rfl, rfl, rfl, fun _ => ⟨rfl, rfl, rfl, rfl, rfl, rfl⟩, fun c => ⟨rfl, reset_chan c⟩⟩

/-! ## Offers (R93, R177, R178) -/

theorem produce_of_accepted {c : ChanId} {b : Body} (h : reportAccepts b s.reports.length = true) :
    s.produce c b =
      { s with
        dropCount := 0
        reports := s.reports ++ [{ channel := c, tick := s.timeBase, body := b
                                   dropped := if s.dropCount = 0 then none else some s.dropCount }] } := by
  simp only [State.produce, h, if_true]

theorem produce_of_refused {c : ChanId} {b : Body} (h : reportAccepts b s.reports.length = false) :
    s.produce c b = { s with dropCount := min 65535 (s.dropCount + 1) } := by
  simp only [State.produce, h, Bool.false_eq_true, if_false, bump, satAdd, Config.counterMax]

/-- Settles O31: the three branches of an offer to a slot, and the two of one to the report queue. -/
theorem slotAndReportOffers : Obligations.SlotAndReportOffers := by
  refine ⟨fun sp f n => ⟨fun h => ?_, fun p h hopen => ?_, fun p h hne => ?_⟩, ?_⟩
  · simp [Setpoint.offer, h]
  · simp [Setpoint.offer, h, hopen]
  · cases hp : p.command <;> simp_all [Setpoint.offer, bump, satAdd]
  · rintro s c b measures hmeasures
    have hdata : b.isData = measures := by
      rw [hmeasures]
      cases b <;> rfl
    refine ⟨fun h => produce_of_accepted ?_, fun h => produce_of_refused ?_⟩
    · rw [reportAccepts_iff, hdata]
      cases measures <;> simp at h ⊢ <;> omega
    · rw [← Bool.not_eq_true, reportAccepts_iff, hdata]
      cases measures <;> simp at h ⊢ <;> omega

end Sys2Proof.Proofs
end

section
/-! The due work (R63, R158): starting it leaves nothing due, every event finds it started, and a request row executes the head
request only in its turn. -/

namespace Sys2Proof.Proofs

open Sys2Proof Sys2Proof.Machine

variable {F : Prop} {s t : State}

/-! ## What the execution of a request leaves due -/

/-- A request has been executed: RESET_N is as before, and either the request is in execution, or an answered RESET_ENGINE
waits, or one answer more stands in the queue. -/
def Executed (s t : State) : Prop :=
  t.resetN = s.resetN ∧ (t.job.isSome = true ∨ t.resetPending = true ∨ t.answers.length = s.answers.length + 1)

theorem executed_placeAnswer (h : Served F s t) (r : Request) (st : Status) (l : List Byte) :
    Executed s (t.placeAnswer r st l) := by
  refine ⟨h.resetN, .inr (.inr ?_)⟩
  rw [State.placeAnswer_answers, List.length_append, h.answers]
  rfl

theorem executed_refuse (s : State) (r : Request) (st : Status) : Executed s (s.refuse r st) :=
  executed_placeAnswer (.refl True s) r st []

theorem executed_answer (s : State) (r : Request) (st : Status) (l : List Byte) : Executed s (s.placeAnswer r st l) :=
  executed_placeAnswer (.refl True s) r st l

theorem executed_ite {p : Prop} [Decidable p] {a b : State} (ha : Executed s a) (hb : Executed s b) :
    Executed s (if p then a else b) := by
  split
  · exact ha
  · exact hb

theorem executed_runCommand (r : Request) (n : Nat) {b : Bool} {act : State → ChanId → Status × State}
    (hact : b = true → ∀ c, Served True s (act s c).2) : Executed s (s.runCommand r n b act) := by
  unfold State.runCommand
  split
  · split
    · split
      · next hb => exact executed_placeAnswer (hact hb _) ..
      · exact executed_answer ..
    · exact executed_answer ..
  · exact executed_answer ..

theorem executed_startPortRead (s : State) (k : PortTable) (r : Request) : Executed s (s.startPortRead k r) :=
  executed_ite (executed_refuse ..) (executed_ite ⟨rfl, .inl rfl⟩ (executed_refuse ..))

theorem executed_startPortWrite (s : State) (k : PortTable) (r : Request) : Executed s (s.startPortWrite k r) :=
  executed_ite (executed_ite ⟨rfl, .inl rfl⟩ (executed_refuse ..)) (executed_refuse ..)

theorem executed_readImage (s : State) (r : Request) (size per : Nat) (image : Nat → List Byte) :
    Executed s (s.readImage r size per image) :=
  executed_ite (executed_refuse ..) (executed_ite (executed_answer ..) (executed_refuse ..))

theorem executed_withLength (r : Request) (n : Nat) (h : Executed s t) : Executed s (s.withLength r n t) :=
  executed_ite h (executed_refuse ..)

theorem executed_readOfChannel (s : State) (r : Request) (results : ChanId → List Byte) :
    Executed s (s.readOfChannel r results) := by
  refine executed_withLength r 1 ?_
  split
  · exact executed_answer ..
  · exact executed_refuse ..

theorem executed_writeLimits (s : State) (r : Request) : Executed s (s.writeLimits r) := by
  unfold State.writeLimits
  refine executed_ite (executed_ite ?_ (executed_refuse ..)) (executed_refuse ..)
  split
  · exact executed_refuse ..
  · exact executed_ite (executed_refuse ..) ⟨rfl, .inr (.inr (List.length_append ..))⟩

theorem executed_writeAccept (s : State) (r : Request) : Executed s (s.writeAccept r) := by
  unfold State.writeAccept
  refine executed_ite ?_ (executed_refuse ..)
  split
  · exact executed_refuse ..
  · exact executed_ite (executed_refuse ..)
      (executed_ite (executed_refuse ..) ⟨rfl, .inr (.inr (List.length_append ..))⟩)

theorem executed_runRow (hs : Ready s) (row : RequestRow) (r : Request) : Executed s (runRow row s r) := by
  cases row with
  | unknownRequest => exact executed_refuse ..
  | identify => exact executed_withLength r 0 (executed_answer s r .ok s.identity)
  | readTableStep | readTableProgram | readTableProfileSeg | readTableProfile => exact executed_startPortRead ..
  | readTableLimit => exact executed_readImage s r _ _ (fun i => limitBytes (s.limitSet i))
  | readTableAccept => exact executed_readImage s r _ _ (fun i => acceptBytes (s.acceptEntry i))
  | readTableConfig =>
    exact executed_readImage s r _ _ (fun i => configBytes (Table.read ConfigRec.reset s.configTable i))
  | readTableUndefinedTable => exact executed_ite (executed_refuse ..) (executed_refuse ..)
  | writeTableStep | writeTableProgram | writeTableProfileSeg | writeTableProfile => exact executed_startPortWrite ..
  | writeTableLimit => exact executed_writeLimits s r
  | writeTableAccept => exact executed_writeAccept s r
  | writeTableConfig => exact executed_refuse ..
  | writeTableUndefinedTable => exact executed_ite (executed_refuse ..) (executed_refuse ..)
  | configure =>
    refine executed_runCommand r _ fun hread c => served_cmdConfigure ?_ s c
    obtain ⟨k, hk⟩ := Option.isSome_iff_exists.mp hread
    rw [hk]
    exact readConfig_wf hk
  | start => exact executed_runCommand r _ fun _ c => served_cmdStart hs.engine _ _ c
  | hold => exact executed_runCommand r _ fun _ c => served_cmdHold s c
  | resume => exact executed_runCommand r _ fun _ c => served_cmdResume _ s c
  | stop => exact executed_runCommand r _ fun _ c => served_cmdStop s c
  | jump => exact executed_runCommand r _ fun _ c => served_cmdJump _ s c
  | clearFault => exact executed_runCommand r _ fun _ c => served_cmdClearFault s c
  | clearTotals => exact executed_runCommand r _ fun _ c => served_cmdClearTotals s c
  | undefinedChannelCommand => exact executed_ite (executed_answer ..) (executed_answer ..)
  | readChannel => exact executed_readOfChannel s r fun c => channelBytes c (s.cfg c).configured (s.chan c)
  | readAccounts => exact executed_readOfChannel s r fun c => accountBytes c (s.chan c).acct
  | readFault => exact executed_readOfChannel s r fun c => faultBytes c (s.chan c).sup.fault
  | readCounters => exact executed_withLength r 0 (executed_answer s r .ok (counterBytes s.link))
  | clearCounters => exact executed_withLength r 0 (executed_placeAnswer (served_zeroCounters (F := True) s) r .ok [])
  | resetEngine => exact executed_ite ⟨rfl, .inr (.inl rfl)⟩ (executed_refuse ..)
  | clearEstop =>
    exact executed_ite (executed_ite ⟨rfl, .inr (.inr (List.length_append ..))⟩ (executed_refuse ..)) (executed_refuse ..)
  | undefinedEngineCommand => exact executed_ite (executed_refuse ..) (executed_refuse ..)

theorem runDue_resetN (s : State) : s.runDue.resetN = s.resetN := by
  unfold State.runDue
  split
  · next h => exact (executed_runRow (ready_of_dueRequest h).1 ..).1
  · rfl

theorem dueRequest_of_full (h : 2 ≤ s.answers.length) : s.dueRequest = none := by
  unfold State.dueRequest
  rw [if_neg]
  simp only [Bool.and_eq_true, decide_eq_true_eq, not_and, Nat.not_lt]
  exact fun _ => h

/-- A request that has been executed leaves another one due only beside one answer more. -/
theorem runDue_cases (s : State) : s.runDue.dueRequest = none ∨ s.runDue.answers.length = s.answers.length + 1 := by
  cases hdue : s.dueRequest with
  | none =>
    rw [State.runDue_of_none hdue]
    exact .inl hdue
  | some r =>
    have hrun : s.runDue = runRow r.row s r := by simp [State.runDue, hdue]
    rw [hrun]
    obtain ⟨-, hjob | hpending | hanswers⟩ := executed_runRow (ready_of_dueRequest hdue).1 r.row r
    · left
      obtain ⟨j, hj⟩ := Option.isSome_iff_exists.mp hjob
      exact State.dueRequest_of_job hj
    · left
      simp [State.dueRequest, hpending]
    · exact .inr hanswers

/-- After two executions no request is due. -/
theorem settleRequests_dueRequest (s : State) : s.settleRequests.dueRequest = none := by
  unfold State.settleRequests
  obtain hnone | hfirst := runDue_cases s
  · rw [State.runDue_of_none hnone]
    exact hnone
  · obtain hnone | hsecond := runDue_cases s.runDue
    · exact hnone
    · exact dueRequest_of_full (by omega)

theorem startFetch_port_ne_free (h : s.fetchQueue ≠ []) : s.startFetch.port ≠ .free := by
  unfold State.startFetch
  split
  · contradiction
  · nofun

/-- Once the table port has started what was due, no access is due. -/
theorem portDue_dueAccess (s : State) : s.portDue.dueAccess = none := by
  unfold State.portDue
  split
  · next h =>
    refine State.dueAccess_of_busy (startFetch_port_ne_free ?_)
    intro hnil
    unfold State.dueAccess at h
    split at h
    · rw [hnil] at h
      cases hj : s.job <;> simp [hj] at h
    · cases h
  · exact State.dueAccess_of_busy nofun
  · next h => exact h

theorem settle_quiet (s : State) : s.settle.quiet = true := by
  have hrequest : s.settle.dueRequest = none := (State.portDue_dueRequest _).trans (settleRequests_dueRequest s)
  have haccess : s.settle.dueAccess = none := portDue_dueAccess _
  simp [State.quiet, hrequest, haccess]

theorem settle_settle (s : State) : s.settle.settle = s.settle := State.settle_of_quiet (settle_quiet s)

theorem settle_resetN (s : State) : s.settle.resetN = s.resetN := by
  have hport (u : State) : u.portDue.resetN = u.resetN := by
    unfold State.portDue
    split
    · unfold State.startFetch
      split <;> rfl
    all_goals rfl
  unfold State.settle
  rw [hport, runDue_resetN, runDue_resetN]

theorem settle_inReset (s : State) : s.settle.inReset = s.inReset := by
  unfold State.inReset
  rw [settle_resetN]

/-! ## Events in any state -/

/-- While RESET_N is low nothing is started. -/
theorem settle_of_inReset (h : s.inReset = true) : s.settle = s :=
  State.settle_of_quiet (State.quiet_of_reset (by simpa [State.inReset] using h))

theorem event_settle (s : State) (f : State → State) : s.event f = s.settle.event f := by
  unfold State.event
  rw [settle_inReset, settle_settle]
  split
  · next h => rw [settle_of_inReset h]
  · rfl

theorem settleRequests_settle (s : State) : s.settle.settleRequests = s.settle :=
  State.settleRequests_of_none (State.dueRequest_of_quiet (settle_quiet s))

theorem settle_dueAccess (s : State) : s.settle.dueAccess = none := portDue_dueAccess _

theorem settle_of_dueFetch (h : s.settleRequests.dueAccess = some .fetch) : s.settle = s.settleRequests.startFetch := by
  show s.settleRequests.portDue = _
  unfold State.portDue
  rw [h]

theorem settle_of_dueManagement (h : s.settleRequests.dueAccess = some .management) :
    s.settle = s.settleRequests.startAccess := by
  show s.settleRequests.portDue = _
  unfold State.portDue
  rw [h]

theorem execFetchStart_settle (s : State) : execFetchStart s = execFetchStart s.settle := by
  unfold execFetchStart
  rw [settle_inReset, settleRequests_settle, settle_dueAccess, settle_settle]
  split
  · next h => rw [settle_of_inReset h]
  · split
    · next h => rw [settle_of_dueFetch h]
    all_goals rfl

theorem execManagementAccessStart_settle (s : State) : execManagementAccessStart s = execManagementAccessStart s.settle := by
  unfold execManagementAccessStart
  rw [settle_inReset, settleRequests_settle, settle_dueAccess, settle_settle]
  split
  · next h => rw [settle_of_inReset h]
  · split
    · next h => rw [settle_of_dueManagement h]
    all_goals rfl

/-- An event finds the due work started. -/
theorem exec_settle {c : Instr} (hrow : requestRowOf c = none) (hfall : c ≠ .resetNFall)
    (hrelease : ∀ a r, c ≠ .resetNRelease a r) (s : State) : exec c s = exec c s.settle := by
  have hevent (f : State → State) : (Host.Outcome.next (s.event f) : Host.Outcome State Fault Refusal) =
      .next (s.settle.event f) := congrArg Host.Outcome.next (event_settle s f)
  have hline (f g : State → State) (h : s.inReset = true → s.settle = s) :
      (if s.inReset then f s else g s.settle) = if s.settle.inReset then f s.settle else g s.settle.settle := by
    rw [settle_inReset, settle_settle]
    split
    · next hin => rw [h hin]
    · rfl
  cases c with
  | resetNFall => exact absurd rfl hfall
  | resetNRelease a r => exact absurd rfl (hrelease a r)
  | fetchStart => exact execFetchStart_settle s
  | managementAccessStart => exact execManagementAccessStart_settle s
  | estopNFall =>
    exact congrArg Host.Outcome.next (hline (fun s => { s with estopN := false })
      (fun s => if s.estopN then s.fallEstop else s) settle_of_inReset)
  | estopNRise =>
    exact congrArg Host.Outcome.next (hline (fun s => { s with estopN := true }) (fun s => { s with estopN := true })
      settle_of_inReset)
  | maintChange level =>
    exact congrArg Host.Outcome.next (hline (fun s => { s with maint := level }) (fun s => { s with maint := level })
      settle_of_inReset)
  | upFrameReceived | dnFrameReceived | framingError | malformedHeader | silenceExpiry | auxFreshnessExpiry | refreshExpiry
  | fetchComplete | managementAccessComplete | dnTransmitStart | dnTransmitComplete | upTransmitStart | upTransmitComplete
  | tableClearComplete | receiverArmed | upCrcError | timeBaseTick => exact hevent _
  | _ => cases hrow

/-! ## Request rows -/

/-- Each request row is the execution of its own requests. -/
theorem exec_of_requestRow {c : Instr} {row : RequestRow} (h : requestRowOf c = some row) (s : State) :
    exec c s = execRow row (runRow row) s := by
  cases c <;> cases h <;> rfl

/-- Settles O4. -/
theorem dueWorkRunsFirst : Obligations.DueWorkRunsFirst := by
  refine ⟨⟨settle_quiet, fun c s hrow hfall hrelease => exec_settle hrow hfall hrelease s⟩, fun c s row hrow => ⟨?_, ?_⟩⟩
  · intro r rest hs
    rw [exec_of_requestRow hrow]
    have hdue := State.dueRequest_of_executes hs
    refine ⟨fun h => execRow_of_executes hs h, fun h => ?_⟩
    have hrun : s.runDue = runRow r.row s r := by simp [State.runDue, hdue]
    have hthird : s.runDue.runDue.runDue = s.runDue.runDue := State.runDue_of_none (settleRequests_dueRequest s)
    simp only [execRow, hdue, h, if_false]
    rw [← hrun, State.settle, State.settle, hthird]
  · intro hs
    rw [exec_of_requestRow hrow, execRow, State.dueRequest_of_quiet hs.2, State.settle_of_quiet hs.2]

end Sys2Proof.Proofs
end

section
/-! The receivers (R140 to R143) and a sound frame at DN: which entry claims it and what its role makes of it (R4, R5, R8 to R20,
R146). -/

namespace Sys2Proof.Proofs

open Sys2Proof Sys2Proof.Machine

variable {s : State} {f : Frame} {c : ChanId}

/-! ## Receivers -/

theorem frameAt_of_crcError (hwf : f.wf = true) (hcrc : crcOk f = false) (s : State) (p : Port)
    (route : State → Frame → State) : s.frameAt p f route = s.crcErrorAt p := by
  have hheader : headerMalformed f.byte0 f.payload.length = false := by simpa [Frame.wf] using hwf
  simp [State.frameAt, hheader, hcrc]

/-- An event at a listening receiver of an attending engine. -/
theorem event_reception {p : Port} (hs : s.attends) (hp : s.listening p) (g : State → State) :
    s.event (fun s => s.reception p g) = g s := by
  rw [State.event_of_attends hs, reception_of_listening hp]

theorem exec_stopBit {p : Port} (hs : s.attends) (hp : s.listening p) :
    exec (.framingError p .stopBit) s = .next ((s.countLink (fun l => l.framing p)).setRx p (.hunt false)) :=
  congrArg Host.Outcome.next (event_reception hs hp _)

theorem exec_truncated {p : Port} (hs : s.attends) (hp : s.listening p) :
    exec (.framingError p .truncated) s = .next ((s.countLink (fun l => l.framing p)).setRx p .armed) :=
  congrArg Host.Outcome.next (event_reception hs hp _)

theorem exec_malformedHeader {p : Port} {b l : Byte} (hs : s.attends) (hp : s.listening p)
    (hbad : headerMalformed b l.toNat = true) : exec (.malformedHeader p b l) s = .next (s.malformedAt p) := by
  have hexec : exec (.malformedHeader p b l) s = .next (s.event fun s =>
      if headerMalformed b l.toNat then s.reception p (fun s => s.malformedAt p) else s) := rfl
  rw [hexec, State.event_of_attends hs, if_pos hbad, reception_of_listening hp]

theorem exec_receiverArmed {p : Port} {b : Bool} (hs : s.attends) (hp : s.rx p = .hunt b) :
    exec (.receiverArmed p) s = .next (s.setRx p .armed) := by
  have hexec : exec (.receiverArmed p) s = .next (s.event fun s =>
    match s.rx p with
    | .hunt _ => s.setRx p .armed
    | .armed => s
    | .receiving => s) := rfl
  rw [hexec, State.event_of_attends hs, hp]

theorem exec_strayZero {p : Port} {b : Bool} (hs : s.attends) (hp : s.rx p = .hunt b) :
    exec (.framingError p .strayZero) s =
      .next (if b then (s.countLink (fun l => l.framing p)).setRx p (.hunt false) else s) := by
  have hexec : exec (.framingError p .strayZero) s = .next (s.event fun s => s.strayZero p) := rfl
  rw [hexec, State.event_of_attends hs, State.strayZero, hp]
  cases b <;> rfl

/-- Settles O7: each row by its own lemma, at each port. -/
theorem receiverRows : Obligations.ReceiverRows := by
  intro s hs
  refine ⟨fun hup => ⟨exec_stopBit hs hup, exec_truncated hs hup, ?_, fun f hwf hcrc => ?_, fun b l hbad => ?_⟩,
    fun hdn => ⟨exec_stopBit hs hdn, exec_truncated hs hdn, fun f hwf hcrc => ?_, fun b l hbad => ?_⟩,
    fun b hb => ⟨exec_receiverArmed hs hb, exec_strayZero hs hb⟩, fun b hb => ⟨exec_receiverArmed hs hb, exec_strayZero hs hb⟩⟩
  · exact congrArg Host.Outcome.next (event_reception hs hup _)
  · exact congrArg Host.Outcome.next ((event_reception hs hup _).trans (frameAt_of_crcError hwf hcrc ..))
  · exact exec_malformedHeader hs hup hbad
  · exact congrArg Host.Outcome.next ((event_reception hs hdn _).trans (frameAt_of_crcError hwf hcrc ..))
  · exact exec_malformedHeader hs hdn hbad

/-! ## A sound frame at DN -/

/-- The state in which the DN receiver has taken a whole frame. -/
abbrev received (s : State) : State := { s with dnRx := .hunt true }

theorem exec_dnFrameReceived_of_soundFrame (hs : s.attends) (hdn : s.listening .dn) (hf : soundFrame f) :
    exec (.dnFrameReceived f) s = .next ((received s).routeDn f) :=
  congrArg Host.Outcome.next ((event_reception hs hdn _).trans (frameAt_of_soundFrame hf ..))

theorem matchesTag_iff (e : AcceptEntry) (tag : Byte) :
    e.matchesTag tag = true ↔ e.enable = true ∧ tag &&& e.mask = e.tag &&& e.mask := by
  simp [AcceptEntry.matchesTag]

/-- The lowest-numbered entry that matches claims the tag (R4). -/
theorem claim_of_first {tag : Byte} {i : Nat} (hi : i < 64) (hmatch : (s.acceptEntry i).matchesTag tag = true)
    (hfirst : ∀ j, j < i → (s.acceptEntry j).matchesTag tag = false) : s.claim tag = some (s.acceptEntry i) := by
  have hfind : (List.range Config.acceptSize).find? (fun j => (s.acceptEntry j).matchesTag tag) = some i := by
    rw [List.find?_range_eq_some]
    exact ⟨hmatch, List.mem_range.mpr hi, fun j hj => by simp [hfirst j hj]⟩
  rw [State.claim, List.find?_map]
  exact congrArg (Option.map s.acceptEntry) hfind

theorem claim_of_none {tag : Byte} (h : ∀ i, i < 64 → (s.acceptEntry i).matchesTag tag = false) : s.claim tag = none := by
  rw [State.claim, List.find?_eq_none]
  intro e he
  obtain ⟨i, hi, rfl⟩ := List.mem_map.mp he
  simp [h i (List.mem_range.mp hi)]

theorem routeDn_of_claimed {e : AcceptEntry} (hkind : frameKind f.byte0 = .sample) (hengine : s.engine ≠ .init)
    (hclaim : s.claim f.addr = some e) : s.routeDn f = s.useClaimed e (readSample f.payload) := by
  simp [State.routeDn, hkind, hengine, hclaim]

theorem routeDn_of_relayed (h : frameKind f.byte0 ≠ .sample ∨ s.engine = .init ∨ s.claim f.addr = none) :
    s.routeDn f = s.relayUpJoin f := by
  unfold State.routeDn
  split
  · next hkind =>
    obtain hne | hinit | hnone := h
    · exact absurd hkind hne
    · simp [hinit]
    · simp [hnone]
  all_goals rfl

/-- Settles O6: the entry that claims, its role, and the relay of the rest. -/
theorem dnRouting : Obligations.DnRouting := by
  intro s f hs hdn hf
  rw [exec_dnFrameReceived_of_soundFrame hs hdn hf]
  refine ⟨fun hkind hengine i hi henable hagree hfirst => ?_, fun hrelay => ?_⟩
  · have hclaim : (received s).claim f.addr = some (s.acceptEntry i) :=
      claim_of_first (s := received s) hi ((matchesTag_iff ..).mpr ⟨henable, hagree⟩) fun j hj => by
        rw [← Bool.not_eq_true]
        exact fun hm => hfirst j hj ((matchesTag_iff ..).mp hm)
    rw [routeDn_of_claimed (s := received s) hkind hengine hclaim]
    refine ⟨fun hconf => ?_, fun hconf => ?_⟩
    · exact congrArg Host.Outcome.next (if_neg (by rw [← Bool.not_eq_true] at hconf; exact hconf))
    · exact congrArg Host.Outcome.next (if_pos hconf)
  · have hroute : (received s).routeDn f = (received s).relayUpJoin f := by
      refine routeDn_of_relayed (hrelay.imp_right (Or.imp_right fun hnone => ?_))
      refine claim_of_none (s := received s) fun i hi => ?_
      rw [← Bool.not_eq_true]
      exact fun hm => hnone i hi ((matchesTag_iff ..).mp hm)
    rw [hroute]
    exact ⟨fun hroom => congrArg Host.Outcome.next (if_pos hroom),
      fun hfull => congrArg Host.Outcome.next (if_neg hfull.not_gt)⟩

/-! ## Samples by role -/

/-- What the role of an entry makes of its claimed frame (R5). -/
def useAs (s : State) (c : ChanId) (x : SampleFields) : Role → State
  | .primary => s.primaryFrame c x
  | .aux => s.auxFrame c x
  | .check => s.checkFrame c x

theorem useClaimed_of_configured {e : AcceptEntry} (h : (s.cfg e.channel).configured = true) (x : SampleFields) :
    s.useClaimed e x = useAs s e.channel x e.role := by
  rw [State.useClaimed, if_pos h]
  cases e.role <;> rfl

theorem exec_of_takesSample {role : Role} (h : s.takesSample f c role) :
    exec (.dnFrameReceived f) s = .next (useAs (received s) c (readSample f.payload) role) := by
  obtain ⟨hs, hdn, hf, hkind, hengine, hconf, hclaim⟩ := h
  obtain ⟨e, he, hrole⟩ := Option.any_eq_true .. |>.mp hclaim
  rw [Bool.and_eq_true, beq_iff_eq, beq_iff_eq] at hrole
  obtain ⟨rfl, rfl⟩ := hrole
  rw [exec_dnFrameReceived_of_soundFrame hs hdn hf, routeDn_of_claimed (s := received s) hkind hengine he,
    useClaimed_of_configured (s := received s) hconf]

theorem exec_primaryFrame (h : s.takesSample f c .primary) :
    exec (.dnFrameReceived f) s = .next ((received s).primaryFrame c (readSample f.payload)) := exec_of_takesSample h

/-- A sample that repeats the reference (R9). -/
theorem primaryFrame_of_duplicate {x : SampleFields} (h : trackSeq (s.chan c).track.reference x.seq (s.cfg c).gapLimit = .duplicate) :
    s.primaryFrame c x = s.modTrack c (fun t => { t with duplicate := bump t.duplicate }) := by
  rw [State.primaryFrame, h]

theorem primaryFrame_of_stale {x : SampleFields} (h : trackSeq (s.chan c).track.reference x.seq (s.cfg c).gapLimit = .stale) :
    s.primaryFrame c x = s.modTrack c (fun t => { t with stale := bump t.stale }) := by
  rw [State.primaryFrame, h]

theorem primaryFrame_of_accepted {x : SampleFields} {span k : Nat} {gap : Bool}
    (h : trackSeq (s.chan c).track.reference x.seq (s.cfg c).gapLimit = .accepted span k gap) :
    s.primaryFrame c x = s.acceptSample c x span k gap := by
  rw [State.primaryFrame, h]

theorem trackSeq_of_duplicate {ref : Byte} {seq : Byte} (h : seq = ref) (gap : Nat) :
    trackSeq (some ref) seq gap = .duplicate := by
  simp [trackSeq, h]

theorem trackSeq_of_stale {ref seq : Byte} (h : 128 ≤ (seq - ref).toNat) (gap : Nat) : trackSeq (some ref) seq gap = .stale := by
  have hne : (seq - ref).toNat ≠ 0 := by omega
  rw [trackSeq]
  simp only [hne, h, if_true, if_false]

/-- A sample 1 to 127 ahead of the reference, its span held at the gap limit (R9, R10). -/
theorem trackSeq_of_accepted {ref seq : Byte} {k : Nat} (hk : k = (seq - ref).toNat) (h1 : 1 ≤ k) (h2 : k ≤ 127) (gap : Nat) :
    trackSeq (some ref) seq gap = .accepted (min k gap) k (decide (gap < k)) := by
  rw [trackSeq]
  simp only [← hk]
  rw [if_neg (by omega), if_neg (by omega)]
  split
  · next h => rw [Nat.min_eq_left h, decide_eq_false (by omega)]
  · next h => rw [Nat.min_eq_right (by omega), decide_eq_true (by omega)]

theorem ite_beq_off {α : Type} (st : ChState) (a b : α) : (if (st == .off) = true then a else b) = if st = .off then a else b := by
  cases st <;> rfl

/-- Settles O8: the three outcomes of `trackSeq` other than an accepted sample. -/
theorem firstAndDiscardedSamples : Obligations.FirstAndDiscardedSamples := by
  refine ⟨fun s f c ref hs href => ⟨fun hsame => ?_, fun hstale => ?_⟩, ?_⟩
  · rw [exec_primaryFrame hs]
    refine congrArg Host.Outcome.next ((primaryFrame_of_duplicate (s := received s) ?_).trans rfl)
    exact (congrArg (trackSeq · _ _) href).trans (trackSeq_of_duplicate hsame _)
  · rw [exec_primaryFrame hs]
    refine congrArg Host.Outcome.next ((primaryFrame_of_stale (s := received s) ?_).trans rfl)
    exact (congrArg (trackSeq · _ _) href).trans (trackSeq_of_stale hstale _)
  · rintro s f c hs href x t d rfl rfl rfl
    rw [exec_primaryFrame hs]
    have hnone : ((received s).chan c).track.reference = none := href
    refine congrArg Host.Outcome.next ?_
    rw [State.primaryFrame, hnone]
    simp only [trackSeq, State.acceptReference, Tracking.accept, ite_beq_off]
    rfl

/-- The stuck comparison by the latch, the reading and the current (R14, R15). -/
theorem stuckStep_eq (t : Tracking) (v : Nat) (i : Int) :
    stuckStep t v i =
      if t.stuckLatch = true then
        (if t.lastPrimary.map (·.v) = some v then (t.stuckCount, true, false) else (0, false, false))
      else if t.lastPrimary.map (·.v) = some v ∧ 50 ≤ i.natAbs then
        (if t.stuckCount + 1 = 32 then (32, true, true) else (t.stuckCount + 1, false, false))
      else (0, false, false) := by
  unfold stuckStep
  cases t.lastPrimary <;> simp [Config.stuckCurrent, Config.stuckMax]

/-- Settles O9: `trackSeq` accepts, and the clauses of `stuckStep` by its branches. -/
theorem acceptedSamples : Obligations.AcceptedSamples := by
  refine ⟨?accepted, ?stuck⟩
  case accepted =>
    rintro s f c ref last hs href hlast x k t d rfl hk h1 h2 clamped cad span st rfl rfl rfl rfl rfl rfl
    rw [exec_primaryFrame hs]
    have htrack := (congrArg (trackSeq · (readSample f.payload).seq (s.cfg c).gapLimit) href).trans
      (trackSeq_of_accepted hk h1 h2 (s.cfg c).gapLimit)
    have hlast' : ((received s).chan c).track.lastArrival = some last := hlast
    refine congrArg Host.Outcome.next ((primaryFrame_of_accepted (s := received s) htrack).trans ?_)
    simp only [State.acceptSample, Tracking.accept, ite_beq_off, hlast']
    rfl
  case stuck =>
    intro t v i
    simp only [stuckStep_eq]
    refine ⟨fun hlatch hsame hcur hlt => ?_, fun hlatch hsame hcur heq => ?_, fun hlatch hmoved => ?_, fun hlatch hsame => ?_,
      fun hlatch hmoved => ?_⟩
    · rw [if_neg (by simp [hlatch]), if_pos ⟨hsame, hcur⟩, if_neg (by omega)]
    · rw [if_neg (by simp [hlatch]), if_pos ⟨hsame, hcur⟩, if_pos (by omega)]
    · rw [if_neg (by simp [hlatch]), if_neg (by rintro ⟨hsame, hcur⟩; exact hmoved.elim (· hsame) hcur.not_gt)]
    · rw [if_pos hlatch, if_pos hsame]
    · rw [if_pos hlatch, if_neg hmoved]

/-! ## AUX and CHECK frames -/

/-- Settles O10: the two outcomes of each frame, and the expiry of the freshness timer. -/
theorem auxAndCheckFrames : Obligations.AuxAndCheckFrames := by
  refine ⟨fun s f c hs => ⟨fun hnone => ?_, fun v hv => ?_⟩, fun s f c hs => ⟨fun p hp hvalid hfar => ?_, fun hnear => ?_⟩,
    fun s c hs hnow => ?_⟩
  · rw [exec_of_takesSample hs, useAs, State.auxFrame, hnone]
  · rw [exec_of_takesSample hs, useAs, State.auxFrame, hv]
    rfl
  · have hp' : ((received s).chan c).track.lastPrimary = some p := hp
    rw [exec_of_takesSample hs, useAs, State.checkFrame, hp']
    exact congrArg Host.Outcome.next (if_pos ⟨hvalid, hfar⟩)
  · rw [exec_of_takesSample hs, useAs, State.checkFrame]
    cases hlast : ((received s).chan c).track.lastPrimary with
    | none => rfl
    | some p =>
      refine congrArg Host.Outcome.next (if_neg ?_)
      rintro ⟨hvalid, hfar⟩
      obtain hnone | hinvalid | ⟨p', hp', hle⟩ := hnear
      · cases hlast.symm.trans hnone
      · exact absurd (hvalid.symm.trans hinvalid) (by decide)
      · obtain rfl : p = p' := Option.some.inj (hlast.symm.trans hp')
        exact hle.not_gt hfar
  · have hexec : exec (.auxFreshnessExpiry c) s = .next (s.event fun s => s.auxExpire c) := rfl
    rw [hexec, State.event_of_attends hs, State.auxExpire, if_pos hnow]
    rfl

end Sys2Proof.Proofs
end

section
/-! The accounting unit (Section 2): the accumulators that a delivery moves in each channel state (O11), and the lifetime
totals over a run of deliveries (O12). -/

namespace Sys2Proof.Proofs

open Sys2Proof Sys2Proof.Machine

theorem overSigned_eq (x : Int) : overSigned x = decide (140737488355327 < x.natAbs) := by
  rw [overSigned, Config.max47, ← Bool.decide_or, decide_eq_decide]
  omega

/-- The residue and the lifetime totals after a delivery that is taken outside OFF (R23, R25). -/
theorem account_lifetime (a : Accounts) {st : ChState} (d : Delivery) (p : Nat) {w : Int} (h : st ≠ .off)
    (hw : w = (a.residue + energyInc d p).tdiv 1000000) :
    (a.account st d p).residue = a.residue + energyInc d p - w * 1000000 ∧
      (a.account st d p).qlIn = min Config.max64 (a.qlIn + (chargeInc d p).toNat) ∧
      (a.account st d p).qlOut = min Config.max64 (a.qlOut + (-chargeInc d p).toNat) ∧
      (a.account st d p).elIn = min Config.max48 (a.elIn + w.toNat) ∧
      (a.account st d p).elOut = min Config.max48 (a.elOut + (-w).toNat) := by
  subst hw
  cases st with
  | off => exact absurd rfl h
  | running | held | complete | isolated => exact ⟨rfl, rfl, rfl, rfl, rfl⟩

/-- Settles O11, by the state of the channel: the statement's four amounts are the increments of `Accounts.account`. -/
theorem accountingByState : Obligations.AccountingByState := by
  rintro s c d a q e w n rfl rfl hq he rfl
  have hq : chargeInc d (s.cfg c).period = q := hq.symm
  have he : energyInc d (s.cfg c).period = e := he.symm
  refine ⟨(s.chan c).acct.account (s.chan c).state d (s.cfg c).period, rfl, fun h => ?_, fun h => ?_, fun h => ?_, fun h => ?_⟩
  · rw [h]; rfl
  · obtain ⟨hresidue, hqlIn, hqlOut, helIn, helOut⟩ := account_lifetime (s.chan c).acct d (s.cfg c).period h rfl
    rw [hq] at hqlIn hqlOut
    rw [he] at hresidue helIn helOut
    exact ⟨hresidue, hqlIn, hqlOut, helIn, helOut⟩
  · cases hst : (s.chan c).state
    case running => exact absurd hst h
    all_goals rfl
  · rw [h]
    simp only [Accounts.account, hq, he]
    exact ⟨rfl, rfl, rfl, congrArg (_ || ·) (overSigned_eq _), congrArg (_ || ·) (overSigned_eq _), rfl, rfl, rfl, rfl, rfl, rfl⟩

/-- What a delivery adds to a signed total: its amount, but nothing in OFF. -/
def unlessOff (st : ChState) (x : Int) : Int := if st = .off then 0 else x

/-- A delivery that leaves both charge totals below their largest value found them so, and their growth is its increment. -/
theorem account_charge (a : Accounts) (st : ChState) (d : Delivery) (p : Nat) (hin : (a.account st d p).qlIn < Config.max64)
    (hout : (a.account st d p).qlOut < Config.max64) :
    a.qlIn < Config.max64 ∧ a.qlOut < Config.max64 ∧
      ((a.account st d p).qlIn : Int) - (a.account st d p).qlOut = (a.qlIn : Int) - a.qlOut + unlessOff st (chargeInc d p) := by
  by_cases h : st = .off
  · subst h
    exact ⟨hin, hout, (add_zero _).symm⟩
  · obtain ⟨-, hqlIn, hqlOut, -, -⟩ := account_lifetime a d p h rfl
    rw [hqlIn] at hin ⊢
    rw [hqlOut] at hout ⊢
    rw [unlessOff, if_neg h]
    simp only [Config.max64] at hin hout ⊢
    omega

/-- The same of the energy totals, with the residue taking what the whole millijoules leave. -/
theorem account_energy (a : Accounts) (st : ChState) (d : Delivery) (p : Nat) (hin : (a.account st d p).elIn < Config.max48)
    (hout : (a.account st d p).elOut < Config.max48) :
    a.elIn < Config.max48 ∧ a.elOut < Config.max48 ∧
      (((a.account st d p).elIn : Int) - (a.account st d p).elOut) * 1000000 + (a.account st d p).residue =
        ((a.elIn : Int) - a.elOut) * 1000000 + a.residue + unlessOff st (energyInc d p) := by
  by_cases h : st = .off
  · subst h
    exact ⟨hin, hout, (add_zero _).symm⟩
  · generalize hw : (a.residue + energyInc d p).tdiv 1000000 = w
    obtain ⟨hresidue, -, -, helIn, helOut⟩ := account_lifetime a d p h hw.symm
    rw [helIn] at hin ⊢
    rw [helOut] at hout ⊢
    rw [unlessOff, if_neg h, hresidue]
    simp only [Config.max48] at hin hout ⊢
    omega

/-- The sum that the statement of O12 forms over the deliveries taken outside OFF. -/
theorem sum_unlessOff (l : List (ChState × Delivery × Nat)) (f : Delivery → Nat → Int) :
    ((l.filter (fun x => x.1 != .off)).map (fun x => f x.2.1 x.2.2)).sum =
      (l.map (fun x => unlessOff x.1 (f x.2.1 x.2.2))).sum := by
  induction l with
  | nil => rfl
  | cons x l ih =>
    rw [List.map_cons, List.sum_cons, ← ih]
    by_cases h : x.1 = .off
    · simp [unlessOff, h]
    · simp [unlessOff, h]

/-- Settles O12, by induction on the run from its last delivery: as long as a total has not saturated at the end, it has not
before. -/
theorem lifetimeTotalsAreExact : Obligations.LifetimeTotalsAreExact := by
  rintro a b l rfl
  rw [sum_unlessOff l fun d p => d.i * ((d.span * p : Nat) : Int),
    sum_unlessOff l fun d p => (d.v : Int) * d.i * ((d.span * p : Nat) : Int)]
  induction l using List.reverseRecOn with
  | nil => simp
  | append_singleton l x ih =>
    obtain ⟨ihCharge, ihEnergy⟩ := ih
    rw [List.foldl_append, List.foldl_cons, List.foldl_nil, List.map_append, List.sum_append, List.map_append, List.sum_append]
    simp only [List.map_cons, List.map_nil, List.sum_cons, List.sum_nil, add_zero]
    refine ⟨fun hin hout => ?_, fun hin hout => ?_⟩
    · obtain ⟨hin', hout', hgrow⟩ := account_charge _ _ _ _ hin hout
      rw [hgrow, ← ihCharge hin' hout', chargeInc]
      ring
    · obtain ⟨hin', hout', hgrow⟩ := account_energy _ _ _ _ hin hout
      have hbefore := ihEnergy hin' hout'
      rw [energyInc] at hgrow
      linarith

end Sys2Proof.Proofs
end

section
/-! The table port (Sections 3.5 and 4.3): the start of a port table's request (O16), the completion of a management access
(O17), and what the free port starts (O18). -/

namespace Sys2Proof.Proofs

open Sys2Proof Sys2Proof.Machine

variable {s : State}

/-! ## Requests of the four port tables -/

/-- The checks of one record of a port table. -/
def recordPasses (k : PortTable) (b : List Byte) : Bool :=
  match k with
  | .step => (readStep b).isSome
  | .program => (readProgram b).isSome
  | .segment => (readSegment b).isSome
  | .profile => (readProfile b).isSome

theorem readRecords_isSome_iff {α : Type} (read : List Byte → Option α) (size n : Nat) (l : List Byte) :
    (readRecords read size n l).isSome = true ↔ ∀ i, i < n → (read ((l.drop (i * size)).take size)).isSome = true := by
  rw [Option.isSome_iff_ne_none, ne_eq, readRecords_none_iff]
  push Not
  simp only [Option.isSome_iff_ne_none]

theorem recordsOk_iff (k : PortTable) (n : Nat) (l : List Byte) :
    k.recordsOk n l = true ↔ ∀ i, i < n → recordPasses k ((l.drop (i * k.recSize)).take k.recSize) = true := by
  cases k <;> exact readRecords_isSome_iff ..

theorem readRangeOk_iff (r : Request) (size per : Nat) :
    r.readRangeOk size per = true ↔ 1 ≤ u8At r.args 3 ∧ u8At r.args 3 ≤ per ∧ u16At r.args 1 + u8At r.args 3 ≤ size := by
  simp only [Request.readRangeOk, Bool.and_eq_true, decide_eq_true_iff, and_assoc]
  rfl

theorem writeRangeOk_iff (r : Request) (size : Nat) :
    r.writeRangeOk size = true ↔ 1 ≤ u8At r.args 3 ∧ u16At r.args 1 + u8At r.args 3 ≤ size := by
  simp only [Request.writeRangeOk, Bool.and_eq_true, decide_eq_true_iff]
  rfl

theorem startPortRead_eq_answered {r : Request} {rest : List Request} (hs : s.executes r rest) (k : PortTable) :
    s.startPortRead k r =
      if r.args.length ≠ 4 then s.answered r rest .badLength []
      else if 1 ≤ u8At r.args 3 ∧ u8At r.args 3 ≤ k.perRequest ∧ u16At r.args 1 + u8At r.args 3 ≤ k.size then
        { s with job := some { table := k, write := false, index := u16At r.args 1, left := u8At r.args 3, data := []
                               out := [] } }
      else s.answered r rest .badArgument [] := by
  rw [State.startPortRead, State.refuse_eq_answered _ hs, State.refuse_eq_answered _ hs]
  exact if_congr Iff.rfl rfl (if_congr (readRangeOk_iff ..) rfl rfl)

theorem writeLengthOk_iff (r : Request) (size : Nat) :
    r.writeLengthOk size = true ↔ ¬ (r.args.length < 4 ∨ r.args.length ≠ 4 + u8At r.args 3 * size) := by
  simp only [Request.writeLengthOk, Bool.and_eq_true, decide_eq_true_iff, not_or, not_lt, not_not]
  rfl

theorem startPortWrite_eq_answered {r : Request} {rest : List Request} (hs : s.executes r rest) (k : PortTable) :
    s.startPortWrite k r =
      if r.args.length < 4 ∨ r.args.length ≠ 4 + u8At r.args 3 * k.recSize then s.answered r rest .badLength []
      else if 1 ≤ u8At r.args 3 ∧ u16At r.args 1 + u8At r.args 3 ≤ k.size ∧
          ∀ i, i < u8At r.args 3 → recordPasses k (((r.args.drop 4).drop (i * k.recSize)).take k.recSize) = true then
        { s with job := some { table := k, write := true, index := u16At r.args 1, left := u8At r.args 3
                               data := r.args.drop 4, out := [] } }
      else s.answered r rest .badArgument [] := by
  rw [State.startPortWrite, State.refuse_eq_answered _ hs, State.refuse_eq_answered _ hs]
  refine (if_congr (writeLengthOk_iff ..) (if_congr ?_ rfl rfl) rfl).trans (ite_not ..)
  rw [Bool.and_eq_true, writeRangeOk_iff, recordsOk_iff, and_assoc]
  rfl

/-- Settles O16, by the table of the request: each row is `startPortRead` or `startPortWrite` of its table. -/
theorem portRequestsStart : Obligations.PortRequestsStart := by
  intro s r rest hs
  refine ⟨fun x hx hrow => ?_, fun x hx hrow => ?_⟩
  · simp only [List.mem_cons, List.not_mem_nil, or_false] at hx
    rcases hx with rfl | rfl | rfl | rfl <;>
      exact (execRow_of_executes hs hrow).trans (congrArg _ (startPortRead_eq_answered hs _))
  · simp only [List.mem_cons, List.not_mem_nil, or_false] at hx
    rcases hx with rfl | rfl | rfl | rfl <;>
      exact (execRow_of_executes hs hrow).trans (congrArg _ (startPortWrite_eq_answered hs _))

/-! ## Management accesses -/

/-- A record written to a port table leaves the other three as they were (R52). -/
theorem portWrite_others (k : PortTable) (i : Nat) (b : List Byte) :
    (k ≠ .step → (s.portWrite k i b).stepTable = s.stepTable) ∧
    (k ≠ .program → (s.portWrite k i b).programTable = s.programTable) ∧
    (k ≠ .segment → (s.portWrite k i b).segmentTable = s.segmentTable) ∧
    (k ≠ .profile → (s.portWrite k i b).profileTable = s.profileTable) := by
  cases k with
  | step => cases h : readStep b <;> simp [State.portWrite, h]
  | program => cases h : readProgram b <;> simp [State.portWrite, h]
  | segment => cases h : readSegment b <;> simp [State.portWrite, h]
  | profile => cases h : readProfile b <;> simp [State.portWrite, h]

theorem portWrite_stepRec {i : Nat} {b : List Byte} {x : StepRecord} (h : s.tablesWf) (hx : readStep b = some x) (j : Nat) :
    (s.portWrite .step i b).stepRec j = if j = i then x else s.stepRec j := by
  obtain ⟨-, hwf, -⟩ := h
  simp only [State.portWrite, hx]
  exact Table.read_write hwf j

theorem portWrite_programDesc {i : Nat} {b : List Byte} {x : ProgramDesc} (h : s.tablesWf) (hx : readProgram b = some x)
    (j : Nat) : (s.portWrite .program i b).programDesc j = if j = i then x else s.programDesc j := by
  obtain ⟨-, -, hwf, -⟩ := h
  simp only [State.portWrite, hx]
  exact Table.read_write hwf j

theorem portWrite_segment {i : Nat} {b : List Byte} {x : Segment} (h : s.tablesWf) (hx : readSegment b = some x) (j : Nat) :
    (s.portWrite .segment i b).segment j = if j = i then x else s.segment j := by
  obtain ⟨-, -, -, hwf, -⟩ := h
  simp only [State.portWrite, hx]
  exact Table.read_write hwf j

theorem portWrite_profileDesc {i : Nat} {b : List Byte} {x : ProfileDesc} (h : s.tablesWf) (hx : readProfile b = some x)
    (j : Nat) : (s.portWrite .profile i b).profileDesc j = if j = i then x else s.profileDesc j := by
  obtain ⟨-, -, -, -, hwf, -⟩ := h
  simp only [State.portWrite, hx]
  exact Table.read_write hwf j

/-- A management access that completes for the request in execution. -/
theorem exec_managementAccessComplete {j : TableJob} {r : Request} {rest : List Request} (hreset : s.resetN = true)
    (hport : s.port = .access) (hjob : s.job = some j) (hreq : s.requests = r :: rest) :
    exec .managementAccessComplete s = .next (State.finishAccess { s with port := .free } j r) := by
  have hexec : exec .managementAccessComplete s = .next (s.event State.completeAccess) := rfl
  rw [hexec, State.event_of_none hreset (State.dueRequest_of_job hjob) (State.dueAccess_of_busy (by rw [hport]; nofun))]
  simp only [State.completeAccess, hport, hjob, hreq]

theorem finishAccess_tables (s : State) (j : TableJob) (r : Request) :
    (s.finishAccess j r).stepTable = (s.accessRecord j).stepTable ∧
      (s.finishAccess j r).programTable = (s.accessRecord j).programTable ∧
      (s.finishAccess j r).segmentTable = (s.accessRecord j).segmentTable ∧
      (s.finishAccess j r).profileTable = (s.accessRecord j).profileTable := by
  unfold State.finishAccess
  split <;> exact ⟨rfl, rfl, rfl, rfl⟩

/-- Settles O17: a read by the answer or the access that is left, a write by `portWrite_replaces`. -/
theorem accessesComplete : Obligations.AccessesComplete := by
  intro s j r rest hreset hport hjob hreq hwf hjobOk
  simp only [State.jobOk, hjob, Option.all_some, Bool.and_eq_true, decide_eq_true_eq] at hjobOk
  have hlast : j.left - 1 = 0 ↔ j.left = 1 := by omega
  have hexec := exec_managementAccessComplete hreset hport hjob hreq
  refine ⟨fun hread => ?_, fun hwrite => ⟨_, hexec, ?_⟩⟩
  · rw [hexec]
    simp only [State.finishAccess, State.jobNext, State.accessRecord, hread, Bool.false_eq_true, if_false, hlast,
      State.placeAnswer, hreq, List.tail_cons]
    split <;> rfl
  · have htables := finishAccess_tables { s with port := .free } j r
    obtain ⟨hstep, hprogram, hsegment, hprofile⟩ := htables
    have haccess : State.accessRecord { s with port := .free } j =
        State.portWrite { s with port := .free } j.table j.index (j.data.take j.table.recSize) := if_pos hwrite
    rw [haccess] at hstep hprogram hsegment hprofile
    obtain ⟨hnotStep, hnotProgram, hnotSegment, hnotProfile⟩ := portWrite_others (s := { s with port := .free }) j.table j.index
      (j.data.take j.table.recSize)
    refine ⟨?_, fun x hk hx i => ?_, fun hk => hstep.trans (hnotStep hk), fun x hk hx i => ?_,
      fun hk => hprogram.trans (hnotProgram hk), fun x hk hx i => ?_, fun hk => hsegment.trans (hnotSegment hk),
      fun x hk hx i => ?_, fun hk => hprofile.trans (hnotProfile hk)⟩
    · unfold State.finishAccess
      rw [State.accessRecord_eq]
      simp only [State.jobNext, hwrite, if_true, hlast, State.placeAnswer, hreq, List.tail_cons]
      split <;> rfl
    · rw [hk] at hstep
      exact (congrArg (Table.read StepRecord.reset · i) hstep).trans (portWrite_stepRec (s := { s with port := .free }) hwf hx i)
    · rw [hk] at hprogram
      exact (congrArg (Table.read ProgramDesc.reset · i) hprogram).trans
        (portWrite_programDesc (s := { s with port := .free }) hwf hx i)
    · rw [hk] at hsegment
      exact (congrArg (Table.read Segment.reset · i) hsegment).trans (portWrite_segment (s := { s with port := .free }) hwf hx i)
    · rw [hk] at hprofile
      exact (congrArg (Table.read ProfileDesc.reset · i) hprofile).trans
        (portWrite_profileDesc (s := { s with port := .free }) hwf hx i)

/-! ## What the free port starts -/

/-- The event FETCH_START with a fetch due. -/
theorem exec_fetchStart (hreset : s.resetN = true) (hdue : s.dueRequest = none) (hacc : s.dueAccess = some .fetch) :
    exec .fetchStart s = .next s.startFetch := by
  have hexec : exec .fetchStart s = execFetchStart s := rfl
  rw [hexec, execFetchStart, State.settleRequests_of_none hdue, hacc, State.inReset, hreset]
  rfl

/-- The event MANAGEMENT_ACCESS_START with an access due. -/
theorem exec_managementAccessStart (hreset : s.resetN = true) (hdue : s.dueRequest = none)
    (hacc : s.dueAccess = some .management) : exec .managementAccessStart s = .next s.startAccess := by
  have hexec : exec .managementAccessStart s = execManagementAccessStart s := rfl
  rw [hexec, execManagementAccessStart, State.settleRequests_of_none hdue, hacc, State.inReset, hreset]
  rfl

theorem dueAccess_fetch {c : ChanId} {rest : List ChanId} (hreset : s.resetN = true) (hfree : s.port = .free)
    (hqueue : s.fetchQueue = c :: rest) (hturn : s.job = none ∨ s.portLast = .management) : s.dueAccess = some .fetch := by
  cases hjob : s.job with
  | none => simp [State.dueAccess, hreset, hfree, hqueue, hjob]
  | some j =>
    have hlast := hturn.resolve_left (by simp [hjob])
    simp [State.dueAccess, hreset, hfree, hqueue, hjob, hlast]

theorem dueAccess_job {j : TableJob} (hreset : s.resetN = true) (hfree : s.port = .free) (hjob : s.job = some j)
    (hturn : s.fetchQueue = [] ∨ s.portLast = .fetch) : s.dueAccess = some .management := by
  cases hqueue : s.fetchQueue with
  | nil => simp [State.dueAccess, hreset, hfree, hqueue, hjob]
  | cons c rest =>
    have hlast := hturn.resolve_left (by simp [hqueue])
    simp [State.dueAccess, hreset, hfree, hqueue, hjob, hlast]

theorem channels_set_self (s : State) (c : ChanId) : s.channels.set c.val (s.chan c) = s.channels := by simp [State.chan]

/-- Settles O18: what is due by R63, then the outcome of the fetch by R64's order. -/
theorem portAlternation : Obligations.PortAlternation := by
  refine ⟨fun s c rest k hreset hdue hfree hqueue hturn hcache => ?_, fun s j hreset hfree hjob hturn => ?_⟩
  · rw [exec_fetchStart hreset hdue (dueAccess_fetch hreset hfree hqueue hturn), State.startFetch, hqueue]
    dsimp only
    by_cases hchain : 16 ≤ (s.chan c).seq.chain
    · have hout : fetchOutcome (s.chan c).seq = .chain := if_pos hchain
      rw [if_pos hchain, fetchChain, hout, channels_set_self]
    · by_cases hbound : k.limit ≤ (s.chan c).seq.index
      · have hout : fetchOutcome (s.chan c).seq = .bound := by
          rw [fetchOutcome, if_neg hchain, hcache]
          exact if_pos hbound
        rw [if_neg hchain, if_pos hbound, fetchChain, hout, channels_set_self]
      · have hout : fetchOutcome (s.chan c).seq = .read (k.base + (s.chan c).seq.index) := by
          rw [fetchOutcome, if_neg hchain, hcache]
          exact if_neg hbound
        rw [if_neg hchain, if_neg hbound, fetchChain, hout]
  · exact exec_managementAccessStart hreset (State.dueRequest_of_job hjob) (dueAccess_job hreset hfree hjob hturn)

end Sys2Proof.Proofs
end

section
/-! Fetches that complete (Sections 4.2 to 4.4 and 4.6): those that stop the transition (O19), the control records (O20, O21) and the
drive records (O22). -/

namespace Sys2Proof.Proofs

open Sys2Proof Sys2Proof.Machine

variable {s : State} {c : ChanId} {o : FetchOutcome}

/-! ## A fetch completes -/

theorem exec_fetchComplete (hreset : s.resetN = true) (hdue : s.dueRequest = none) {live : Bool}
    (hport : s.port = .fetch c o live) :
    exec .fetchComplete s = .next (if live then State.finishFetch { s with port := .free } c o else { s with port := .free }) := by
  have hexec : exec .fetchComplete s = .next (s.event State.completeFetch) := rfl
  rw [hexec, State.event_of_none hreset hdue (State.dueAccess_of_busy (by rw [hport]; nofun)), State.completeFetch, hport]

theorem exec_fetchedRecord (hreset : s.resetN = true) (hdue : s.dueRequest = none) {i : Nat}
    (hport : s.port = .fetch c (.read i) true) :
    exec .fetchComplete s = .next (State.processRecord { s with port := .free } c (s.stepRec i)) :=
  exec_fetchComplete hreset hdue hport

/-- The transition stops with a program fault at the completion of its fetch (R71). -/
theorem programFault_of_free (s : State) (c : ChanId) (f : Cause) :
    State.programFault { s with port := .free } c f = { s.after c
        { s.chan c with
          state := .held, seq := (s.chan c).seq.dropped (s.chan c).seq.stepCopy .fault
          sup := { (s.chan c).sup with fault := s.entered c (FaultEntry.bare f) }
          sp := s.slot c .zero 0 s.nextSince }
        1 (s.faultBodyOf c (FaultEntry.bare f) .programFault ::
          s.stateBody c (s.chan c).state .held (s.chan c).sup.level .programFault) with port := .free } :=
  (State.programFault_eq_after ..).trans (after_setPort ..)

/-- Settles O19, by what the fetch found. -/
theorem fetchStops : Obligations.FetchStops := by
  intro s c o hreset hdue
  refine ⟨fun hport => exec_fetchComplete hreset hdue hport, fun f hport hstop => ?_⟩
  rw [exec_fetchComplete hreset hdue hport, ← programFault_of_free]
  obtain ⟨rfl, rfl⟩ | ⟨rfl, rfl⟩ | ⟨i, rfl, hop, rfl⟩ := hstop
  · rfl
  · rfl
  · have hrecord : State.stepRec { s with port := .free } i = s.stepRec i := rfl
    simp only [if_true, State.finishFetch, State.processRecord, hrecord, hop]

/-! ## LOOP and ENDLOOP -/

theorem processRecord_loop {r : StepRecord} (h : r.op = .loop) : s.processRecord c r = s.doLoop c r := by
  simp only [State.processRecord, h]

theorem processRecord_endloop {r : StepRecord} (h : r.op = .endloop) : s.processRecord c r = s.doEndloop c := by
  simp only [State.processRecord, h]

theorem processRecord_call {r : StepRecord} (h : r.op = .call) : s.processRecord c r = s.doCall c r := by
  simp only [State.processRecord, h]

theorem processRecord_ret {r : StepRecord} (h : r.op = .ret) : s.processRecord c r = s.doReturn c := by
  simp only [State.processRecord, h]

theorem processRecord_endProgram {r : StepRecord} (h : r.op = .endProgram) : s.processRecord c r = s.doEnd c := by
  simp only [State.processRecord, h]

theorem processRecord_drive {r : StepRecord} (h : r.op = .rest ∨ r.op = .cc ∨ r.op = .cp ∨ r.op = .cccv ∨ r.op = .profile) :
    s.processRecord c r = s.doDrive c r := by
  obtain h | h | h | h | h := h <;> simp only [State.processRecord, h]

/-- An ENDLOOP without the LOOP frame of its own index on top. -/
theorem doEndloop_of_foreign
    (h : ∀ start n cy rest, (s.chan c).seq.stack ≠ .loopFrame start (s.chan c).seq.index n cy :: rest) :
    s.doEndloop c = s.programFault c .nesting := by
  unfold State.doEndloop
  dsimp only
  split
  · next start finish n cy rest hstack =>
    refine if_neg fun hfinish => h start n cy rest ?_
    rw [← hfinish]
    exact hstack
  · rfl
  · rfl

/-- An ENDLOOP that closes a pass of its own loop. -/
theorem doEndloop_of_own {start n : Nat} {cy : Bool} {rest : List StackFrame}
    (h : (s.chan c).seq.stack = .loopFrame start (s.chan c).seq.index n cy :: rest) :
    s.doEndloop c = { s.after c
        { s.chan c with
          acct := if cy then (s.chan c).acct.resetCycle else (s.chan c).acct
          seq := { (s.chan c).seq with
            cycleCount := if cy then min 4294967295 ((s.chan c).seq.cycleCount + 1) else (s.chan c).seq.cycleCount
            stack := if 1 < n then .loopFrame start (s.chan c).seq.index (n - 1) cy :: rest else rest
            index := if 1 < n then start else (s.chan c).seq.index + 1 } }
        0 (if cy then [.cycleEnd (cycleEndBody (s.chan c).acct (min 4294967295 ((s.chan c).seq.cycleCount + 1)))] else [])
        with fetchQueue := s.fetchQueue ++ [c] } := by
  have hpass : 0 < n - 1 ↔ 1 < n := by omega
  unfold State.doEndloop
  simp only [h, if_true, hpass]
  cases cy
  · split <;> exact State.continueAt_eq_after ..
  · simp only [if_true]
    rw [State.countCycle_eq_after s c (min 4294967295 ((s.chan c).seq.cycleCount + 1)) rfl]
    split <;> simp only [State.continueAt_eq_after, State.after_after, State.after_chan_self, State.after_fetchQueue] <;> rfl

/-- Settles O20, record by record. -/
theorem loopRecords : Obligations.LoopRecords := by
  rintro s c i q hreset hdue hport rfl
  have hexec := exec_fetchedRecord hreset hdue hport
  refine ⟨fun hop => ?_, fun hop hforeign => ?_, fun start n cy rest hop hown => ?_⟩
  · rw [hexec, processRecord_loop hop]
    rfl
  · rw [hexec, processRecord_endloop hop]
    exact congrArg _ (doEndloop_of_foreign (s := { s with port := .free }) hforeign)
  · rw [hexec, processRecord_endloop hop, doEndloop_of_own (s := { s with port := .free }) hown, after_setPort]
    rfl

/-! ## CALL, RETURN and END -/

theorem topCall_of_loops {l : List StackFrame} (h : ∀ f, f ∈ l → ∀ sel idx, f ≠ .callFrame sel idx) (rest : List StackFrame) :
    topCall (l ++ rest) = topCall rest := by
  induction l with
  | nil => rfl
  | cons f l ih =>
    cases f with
    | callFrame sel idx => exact absurd rfl (h _ List.mem_cons_self sel idx)
    | loopFrame start finish n cy => exact ih fun g hg => h g (List.mem_cons_of_mem _ hg)

theorem doReturn_of_loops (h : ∀ f, f ∈ (s.chan c).seq.stack → ∀ sel idx, f ≠ .callFrame sel idx) :
    s.doReturn c = (s.modSeq c (fun q => { q with stackUnderflow := true })).programFault c .stackUnderflow := by
  have htop : topCall (s.chan c).seq.stack = none := by simpa [topCall] using topCall_of_loops h []
  simp only [State.doReturn, htop]

theorem doReturn_of_call {loops rest : List StackFrame} {sel idx : Nat}
    (hstack : (s.chan c).seq.stack = loops ++ .callFrame sel idx :: rest)
    (hloops : ∀ f, f ∈ loops → ∀ a b, f ≠ .callFrame a b) :
    s.doReturn c =
      if (s.programDesc sel).valid = false then s.programFault c .descriptorInvalid
      else s.continueAt c (fun q => { q with
        stack := rest, cache := some (s.programDesc sel).toCache, selector := sel, index := idx }) := by
  have htop : topCall (s.chan c).seq.stack = some (sel, idx, rest) := by rw [hstack, topCall_of_loops hloops, topCall]
  simp only [State.doReturn, htop]
  cases (s.programDesc sel).valid <;> rfl

theorem doCall_eq (s : State) (c : ChanId) (r : StepRecord) :
    s.doCall c r =
      if (s.programDesc r.b).valid = false then s.programFault c .descriptorInvalid
      else if 8 ≤ (s.chan c).seq.stack.length then
        (s.modSeq c (fun q => { q with stackOverflow := true })).programFault c .stackOverflow
      else s.continueAt c (fun q => { q with
        stack := .callFrame q.selector (q.index + 1) :: q.stack
        cache := some (s.programDesc r.b).toCache, selector := r.b, index := 0 }) := by
  unfold State.doCall
  cases hvalid : (s.programDesc r.b).valid <;>
    simp only [hvalid, if_true, if_false, Bool.false_eq_true, Bool.true_eq_false]

/-- Settles O21, record by record. -/
theorem callReturnEndRecords : Obligations.CallReturnEndRecords := by
  rintro s c i r q hreset hdue hport rfl rfl
  have hexec := exec_fetchedRecord hreset hdue hport
  refine ⟨fun hop => ?_, fun hop hloops => ?_, fun loops sel idx rest hop hstack hloops => ?_, fun hop => ?_⟩
  · rw [hexec, processRecord_call hop, doCall_eq]
    rfl
  · rw [hexec, processRecord_ret hop, doReturn_of_loops (s := { s with port := .free }) hloops]
    rfl
  · rw [hexec, processRecord_ret hop, doReturn_of_call (s := { s with port := .free }) hstack hloops]
    rfl
  · rw [hexec, processRecord_endProgram hop, State.doEnd_eq_after, after_setPort]
    rfl

/-! ## Drive records -/

/-- The authority and profile checks of a drive record, in the words of R65. -/
theorem driveAllowed_iff {r : StepRecord} {k : DescCache} (hcache : (s.chan c).seq.cache = some k) :
    s.driveAllowed c r = true ↔
      ¬ ((r.op = .cc ∧ (0 < r.a ∧ k.allowCharge = false ∨ r.a < 0 ∧ k.allowDischarge = false)) ∨
        (r.op = .cccv ∧ k.allowCharge = false) ∨ (r.op = .profile ∧ (s.profileDesc r.b).valid = false)) := by
  unfold State.driveAllowed
  rw [hcache]
  cases hop : r.op <;> simp [imp_iff_not_or]

theorem startR_eq (r : StepRecord) : startR r = if r.op = .cccv then r.a else 0 := by
  unfold startR
  cases r.op <;> rfl

/-- A drive record in its three outcomes (R65). -/
theorem doDrive_eq (s : State) (c : ChanId) (r : StepRecord) :
    s.doDrive c r =
      if s.driveAllowed c r = true then
        match (s.chan c).seq.holdPending with
        | none => s.beginStep c r
        | some h => s.holdAtDrive c h
      else s.programFault c .stepInvalid := rfl

/-- Settles O22: the checks, hold-pending, then the step. -/
theorem driveRecords : Obligations.DriveRecords := by
  rintro s c i r k q u hreset hdue hport rfl rfl hcache hop rfl
  rw [exec_fetchedRecord hreset hdue hport, processRecord_drive hop, doDrive_eq]
  refine congrArg Host.Outcome.next ((if_congr (driveAllowed_iff (s := { s with port := .free }) hcache) ?_ rfl).trans
    (ite_not ..))
  have hchan : State.chan { s with port := .free } c = s.chan c := rfl
  rw [hchan, beginStep_eq, hchan]
  cases hhold : (s.chan c).seq.holdPending with
  | none =>
    dsimp only
    simp only [State.modChan, stepBegun, startR_eq, hchan, hhold]
    cases hpend : (s.chan c).seq.pendingEval with
    | none => rfl
    | some d => rfl
  | some h =>
    dsimp only
    rw [State.holdAtDrive_eq_after, after_setPort]
    rfl

end Sys2Proof.Proofs
end

section
/-! The evaluation of a delivery (Section 4.5): the terminator tests (O24) and actions (O23), the setpoint of an evaluation that
ends no step (O25), and the profile cursor (O26, O27). -/

namespace Sys2Proof.Proofs

open Sys2Proof Sys2Proof.Machine

variable {s : State} {c : ChanId} {d : Delivery} {r : StepRecord}

/-! ## Terminator tests -/

/-- TEMP_ABOVE looks at the greater of the temperatures present. -/
theorem satisfied_tempAbove_iff {tm : Terminator} (h : tm.kind = .tempAbove) (d : Delivery) (a : Accounts) (pk : Nat) :
    satisfied tm d a pk = true ↔
      (∃ x, d.t = some x ∧ tm.threshold ≤ x) ∨ ∃ x, d.aux = some x ∧ tm.threshold ≤ x := by
  cases ht : d.t <;> cases haux : d.aux <;> simp [satisfied, h, evalTemp, ht, haux]

/-- When a slot fires, in the words of R73. -/
theorem fires_iff (r : StepRecord) (d : Delivery) (a : Accounts) (pk : Nat) (tm : Terminator) :
    (tested r a tm && satisfied tm d a pk) = true ↔ (r.guard ≤ a.ts ∨ tm.kind = .time) ∧
      ((tm.kind = .vAbove ∧ tm.threshold ≤ d.v) ∨ (tm.kind = .vBelow ∧ (d.v : Int) ≤ tm.threshold) ∨
        (tm.kind = .iAbsBelow ∧ (d.i.natAbs : Int) ≤ tm.threshold) ∨
        (tm.kind = .time ∧ (tm.threshold ≤ a.ts ∨ a.ts = 4294967295)) ∨
        (tm.kind = .chargeAbs ∧ tm.threshold ≤ a.qs.natAbs) ∨ (tm.kind = .energyAbs ∧ tm.threshold ≤ a.es.natAbs) ∨
        (tm.kind = .tempAbove ∧ ((∃ x, d.t = some x ∧ tm.threshold ≤ x) ∨ ∃ x, d.aux = some x ∧ tm.threshold ≤ x)) ∨
        (tm.kind = .dvDrop ∧ tm.threshold ≤ (pk : Int) - d.v)) := by
  rw [Bool.and_eq_true]
  refine and_congr (by simp [tested]) ?_
  cases hkind : tm.kind
  case tempAbove => simp [satisfied_tempAbove_iff hkind]
  all_goals simp [satisfied, hkind]

/-- Settles O24: `fires` is the test that `firedSlot` makes of each slot in turn. -/
theorem terminatorTests : Obligations.TerminatorTests := by
  intro r d a pk fires hfires
  have htest (tm : Terminator) : fires tm ↔ (tested r a tm && satisfied tm d a pk) = true :=
    (hfires tm).trans (fires_iff r d a pk tm).symm
  simp only [htest, firedSlot]
  by_cases h1 : (tested r a r.slot1 && satisfied r.slot1 d a pk) = true
  · simp [h1]
  · by_cases h2 : (tested r a r.slot2 && satisfied r.slot2 d a pk) = true
    · simp [h1, h2]
    · by_cases h3 : (tested r a r.slot3 && satisfied r.slot3 d a pk) = true <;> simp [h1, h2, h3]

/-! ## The parts of an evaluation -/

/-- The sequencing context with the voltage of an evaluation taken in and grace used up (R73, R133). -/
def peaked (v : Nat) (q : Sequencing) : Sequencing := { q with peak := some (peakWith q.peak v), grace := false }

theorem evaluate_of_fired {cause : EndCause} {tm : Terminator} (hstep : (s.chan c).seq.stepCopy = some r)
    (hgrace : (s.chan c).seq.grace = false)
    (hfired : firedSlot r d (s.chan c).acct (peakWith (s.chan c).seq.peak d.v) = some (cause, tm)) :
    s.evaluate c d = (s.modSeq c (peaked d.v)).fire c cause tm d := by
  simp only [State.evaluate, hstep, hgrace, Bool.false_eq_true, if_false, hfired]
  rfl

theorem evaluate_of_quiet (hstep : (s.chan c).seq.stepCopy = some r)
    (hquiet : (s.chan c).seq.grace = true ∨
      firedSlot r d (s.chan c).acct (peakWith (s.chan c).seq.peak d.v) = none) :
    s.evaluate c d =
      if r.op = .profile then (s.modSeq c (peaked d.v)).evalProfile c r d else (s.modSeq c (peaked d.v)).emitRun c r d 0 := by
  have hnone : (if (s.chan c).seq.grace then none
      else firedSlot r d (s.chan c).acct (peakWith (s.chan c).seq.peak d.v)) = none := by
    obtain h | h := hquiet <;> simp [h]
  simp only [State.evaluate, hstep, hnone]
  cases r.op <;> rfl

/-- The peak and grace are no part of a STEP_END record. -/
theorem stepEndBodies_peaked (s : State) (c : ChanId) (n : Nat) (cause : EndCause) (v : Nat) (i : Int) (t : Option Int) :
    (s.modSeq c (peaked n)).stepEndBodies c cause v i t = s.stepEndBodies c cause v i t := by
  simp only [State.stepEndBodies, State.modSeq, State.modChan, State.setChan_chan, if_true]
  rfl

theorem peaked_stepEnd (s : State) (c : ChanId) (n : Nat) (cause : EndCause) (v : Nat) (i : Int) (t : Option Int) :
    (s.modSeq c (peaked n)).stepEnd c cause v i t =
      s.after c { s.chan c with seq := peaked n (s.chan c).seq } 0 (s.stepEndBodies c cause v i t) := by
  rw [State.stepEnd_eq_after, stepEndBodies_peaked, State.modSeq_eq_after, State.after_after, State.after_chan_self]
  rfl

/-- A transition that begins at the end of a step clears the peak; grace is used up already where none was set. -/
theorem peaked_beginTransition (hgrace : (s.chan c).seq.grace = false) (n : Nat) (l : List Body) (x : Nat)
    (hp : Option HoldKind) (stack : List StackFrame) :
    (s.after c { s.chan c with seq := { peaked n (s.chan c).seq with stack := stack } } 0 l).beginTransition c x hp =
      { s.after c
        (({ s.chan c with seq := { (s.chan c).seq with stack := stack } } : Channel).begun x hp
          (s.slot c .zero 0 s.nextSince)) 1 l with fetchQueue := s.fetchQueue ++ [c] } := by
  rw [State.beginTransition_eq_after, State.after_after, State.after_chan_self, State.after_slot, State.after_nextSince,
    State.after_fetchQueue]
  simp [Channel.begun, peaked, hgrace, State.slot]

/-- Settles O23, by the action of the slot that fires. -/
theorem terminatorActions : Obligations.TerminatorActions := by
  rintro s c d r cause tm q rfl hstep hgrace hfired go rfl
  have hseq : ((s.modSeq c (peaked d.v)).chan c).seq = peaked d.v (s.chan c).seq := by simp
  have hstack : (peaked d.v (s.chan c).seq).stack = (s.chan c).seq.stack := rfl
  rw [evaluate_of_fired hstep hgrace hfired, State.fire, hseq, peaked_stepEnd]
  refine ⟨fun h => ?_, fun h => ?_, fun h => ?_, fun start finish n cy rest h hloop => ?_, fun h hloop z hz => ?_, fun h => ?_⟩
  · simp only [h]
    exact peaked_beginTransition hgrace d.v _ _ _ (s.chan c).seq.stack
  · simp only [h]
    exact peaked_beginTransition hgrace d.v _ _ _ (s.chan c).seq.stack
  · simp only [h]
    exact peaked_beginTransition hgrace d.v _ _ _ (s.chan c).seq.stack
  · simp only [h, hstack, hloop]
    rw [State.modSeq_eq_after, State.after_after, State.after_chan_self, List.append_nil]
    exact peaked_beginTransition hgrace d.v _ _ _ rest
  · subst hz
    simp only [h, hstack]
    split
    · next hloop' => exact absurd hloop' (hloop _ _ _ _ _)
    all_goals
      rw [openTransition_programFault_eq_after, State.after_after, State.after_chan_self]
      simp [peaked, Sequencing.dropped, slotTwice, Accounts.resetStep, zeroFrame]
      rfl
  · simp only [h]
    rw [endProgram_eq_after, State.after_after, State.after_chan_self]
    simp [peaked, State.slot]

/-! ## The setpoint of an evaluation -/

/-- The setpoint stage in a state that landings may have changed, of a channel whose sequencing context is `q` (R86). -/
theorem emitRun_of_landed {u : State} (hland : u.LandedFrom s) (q : Sequencing) (r : StepRecord) (d : Delivery) (x reg cur : Int)
    (hr : reg = evalR { s.chan c with seq := q } r d.v x) (hc : cur = emitted (s.chan c).sup.level reg) :
    (u.setChan c { s.chan c with seq := q }).emitRun c r d x = u.after c
      { s.chan c with
        seq := { q with phase := evalPhase r reg q.phase }
        sp := { s.slot c .run cur s.nextSince with regulator := reg } } 1 [] := by
  have hchan : (u.setChan c { s.chan c with seq := q }).chan c = { s.chan c with seq := q } := by simp
  rw [State.emitRun_eq_after _ c r d x reg cur (by rw [hchan]; exact hr) (by rw [hchan]; exact hc), hchan,
    State.setChan_eq_after, State.after_after, State.after_slot, State.after_nextSince, hland.cfg, hland.nextSince]
  simp [State.slot]

theorem emitted_eq (l : Level) (x : Int) : emitted l x = if l = .derated then x.tdiv 2 else x := by cases l <;> rfl

theorem evalPhase_eq (r : StepRecord) (x : Int) (p : Phase) :
    evalPhase r x p = if r.op = .cccv then (if x = r.a then .cc else .cv) else p := by
  unfold evalPhase
  cases r.op <;> rfl

theorem evalR_of_cache {ch : Channel} {k : DescCache} (h : ch.seq.cache = some k) (r : StepRecord) (v : Nat) (x : Int) :
    evalR ch r v x = max (-(k.idisMax : Int)) (min (k.ichgMax : Int) (computeR r v ch.sp.regulator x)) := by
  rw [evalR, h]
  rfl

/-- What is emitted lies within the authority that the regulator value lies in (R90, R91). -/
theorem emitted_within {k : DescCache} {x y : Int} (h : x = max (-(k.idisMax : Int)) (min (k.ichgMax : Int) y)) (l : Level) :
    -(k.idisMax : Int) ≤ emitted l x ∧ emitted l x ≤ k.ichgMax := by
  rw [emitted_eq]
  split
  · rw [Int.tdiv_eq_ediv]
    split
    · omega
    · have hsign : Int.sign 2 = 1 := rfl
      omega
  · omega

/-- Settles O25: the op's value, the clamp, and the RUN frame of `emitRun`. -/
theorem evaluationDrives : Obligations.EvaluationDrives := by
  rintro s c d r k q computed reg cur rfl hstep hcache hop hquiet hcomputed hreg hcur
  have hvalue : computed = computeR r d.v (s.chan c).sp.regulator 0 := by
    rw [hcomputed, computeR]
    cases r.op <;> rfl
  rw [hvalue, ← evalR_of_cache hcache] at hreg
  rw [← emitted_eq] at hcur
  have hwithin := emitted_within (hreg.trans (evalR_of_cache hcache ..)) (s.chan c).sup.level
  rw [← hcur] at hwithin
  refine ⟨hwithin.1, hwithin.2, ?_⟩
  rw [evaluate_of_quiet hstep hquiet, if_neg hop, ← evalPhase_eq]
  exact emitRun_of_landed (.refl s) (peaked d.v (s.chan c).seq) r d 0 reg cur hreg hcur

/-! ## A PROFILE evaluation -/

theorem setChan_modSeq (s : State) (c : ChanId) (ch : Channel) (f : Sequencing → Sequencing) :
    (s.setChan c ch).modSeq c f = s.setChan c { ch with seq := f ch.seq } := by
  rw [State.modSeq_eq_after, State.setChan_eq_after, State.setChan_eq_after, State.after_after, State.after_chan_self]
  rfl

/-- The step ends and a transition begins, in a state that landings may have changed: the peak and the profile cursor are no part
of the STEP_END record, and the transition clears them. -/
theorem stepEnd_begin_of_landed {u : State} (hland : u.LandedFrom s) {q : Sequencing}
    (hq : q = { (s.chan c).seq with peak := q.peak, grace := false, ordinal := q.ordinal, segStart := q.segStart })
    (cause : EndCause) (v : Nat) (i : Int) (t : Option Int) (x : Nat) (hp : Option HoldKind) :
    ((u.setChan c { s.chan c with seq := q }).stepEnd c cause v i t).beginTransition c x hp = { u.after c
      (({ s.chan c with seq := { (s.chan c).seq with grace := false } } : Channel).begun x hp
        (s.slot c .zero 0 s.nextSince))
      1 (s.stepEndBodies c cause v i t) with fetchQueue := s.fetchQueue ++ [c] } := by
  have hchan : (u.setChan c { s.chan c with seq := q }).chan c = { s.chan c with seq := q } := by simp
  have hbodies : (u.setChan c { s.chan c with seq := q }).stepEndBodies c cause v i t = s.stepEndBodies c cause v i t := by
    rw [State.stepEndBodies, hchan, hq]
    rfl
  rw [State.stepEnd_eq_after, hbodies, hchan, State.setChan_eq_after, State.after_after, State.beginTransition_eq_after,
    State.after_after, State.after_chan_self, State.after_slot, State.after_nextSince, State.after_fetchQueue, hland.cfg,
    hland.nextSince, hland.fetchQueue]
  rw [hq]
  simp [Channel.begun, State.slot]

/-- Settles O27: the advance reads no channel, so it goes on from `s` itself, and then the step ends or drives. -/
theorem profileEvaluation : Obligations.ProfileEvaluation := by
  rintro s u c d r k q desc res reg rfl hstep hcache hop rfl hquiet hres hreg rfl
  have hset : s.modSeq c (peaked d.v) = s.setChan c { s.chan c with seq := peaked d.v (s.chan c).seq } := rfl
  have hchan : (s.setChan c { s.chan c with seq := peaked d.v (s.chan c).seq }).chan c =
      { s.chan c with seq := peaked d.v (s.chan c).seq } := by simp
  have hland : res.after.LandedFrom s := by
    rw [hres]
    exact profileAdvance_landed ..
  have hadvance := profileAdvance_setChan (s.profileDesc r.b) (s.chan c).acct.ts
    (profileFuel (s.chan c).acct.ts (s.chan c).seq.segStart) s (s.chan c).seq.ordinal (s.chan c).seq.segStart c
    { s.chan c with seq := peaked d.v (s.chan c).seq }
  rw [← hres] at hadvance
  rw [evaluate_of_quiet hstep hquiet, if_pos hop, hset]
  unfold State.evalProfile
  rw [State.setChan_profileDesc, hchan]
  dsimp only
  rw [show (peaked d.v (s.chan c).seq).segStart = (s.chan c).seq.segStart from rfl,
    show (peaked d.v (s.chan c).seq).ordinal = (s.chan c).seq.ordinal from rfl, hadvance]
  dsimp only
  rw [setChan_modSeq]
  cases hvalid : (s.profileDesc r.b).valid
  · exact stepEnd_begin_of_landed (.refl s) rfl ..
  · cases hended : res.ended
    · have hcomputed : computeR r d.v (s.chan c).sp.regulator res.current = res.current := by rw [computeR, hop]
      rw [← hcomputed, ← evalR_of_cache hcache] at hreg
      have hrun := emitRun_of_landed hland
        { peaked d.v (s.chan c).seq with ordinal := res.ordinal, segStart := res.start } r d res.current reg _ hreg rfl
      rw [evalPhase_eq, if_neg (by rw [hop]; decide), emitted_eq] at hrun
      exact hrun
    · exact stepEnd_begin_of_landed hland rfl ..

end Sys2Proof.Proofs
end

section
/-! The profile cursor (R76) and the segment writes that land between its reads (R51 to R53): O26. -/

namespace Sys2Proof.Proofs

open Sys2Proof Sys2Proof.Machine

variable {s : State} {d : ProfileDesc} {ts : Nat}

/-! ## Where the cursor stops -/

/-- Moves that an advance can still make: each segment passed takes at least one tick, and a wrap follows at most each. -/
def movesLeft (d : ProfileDesc) (ts o start : Nat) : Nat := 2 * (ts - start) + if d.count ≤ o then 2 else 1

theorem movesLeft_le (d : ProfileDesc) (ts o start : Nat) : movesLeft d ts o start ≤ profileFuel ts start := by
  unfold movesLeft profileFuel
  split <;> omega

theorem movesLeft_wrap {o start : Nat} (hcount : 1 ≤ d.count) (h : d.count ≤ o) :
    movesLeft d ts 0 start + 1 = movesLeft d ts o start := by
  simp [movesLeft, h, Nat.one_le_iff_ne_zero.mp hcount]

theorem movesLeft_pass {o start hold : Nat} (h : ¬ d.count ≤ o) (hhold : 1 ≤ hold) (hpass : start + hold ≤ ts) :
    movesLeft d ts (o + 1) (start + hold) + 1 ≤ movesLeft d ts o start := by
  simp only [movesLeft, h, if_false]
  split <;> omega

theorem movesLeft_pos (d : ProfileDesc) (ts o start : Nat) : 0 < movesLeft d ts o start := by
  unfold movesLeft
  split <;> omega

/-- One move of the cursor (R76). -/
theorem profileAdvance_once {o : Nat} (h : d.count ≤ o) (hrep : d.rep = .once) (n : Nat) (s : State) (start : Nat) :
    profileAdvance d ts (n + 1) s o start = { ended := true, ordinal := o, start := start, current := 0, after := s } := by
  simp only [profileAdvance, h, if_true, hrep]

theorem profileAdvance_wrap {o : Nat} (h : d.count ≤ o) (hrep : d.rep = .wrap) (n : Nat) (s : State) (start : Nat) :
    profileAdvance d ts (n + 1) s o start = profileAdvance d ts n s 0 start := by
  simp only [profileAdvance, h, if_true, hrep]

theorem profileAdvance_pass {o start : Nat} (h : ¬ d.count ≤ o)
    (hpass : start + (s.betweenReads.segment (d.first + o)).effHold ≤ ts) (n : Nat) :
    profileAdvance d ts (n + 1) s o start =
      profileAdvance d ts n s.betweenReads (o + 1) (start + (s.betweenReads.segment (d.first + o)).effHold) := by
  simp only [profileAdvance, h, if_false, hpass, if_true]

theorem profileAdvance_stop {o start : Nat} (h : ¬ d.count ≤ o)
    (hstop : ¬ start + (s.betweenReads.segment (d.first + o)).effHold ≤ ts) (n : Nat) :
    profileAdvance d ts (n + 1) s o start =
      { ended := false, ordinal := o, start := start, current := (s.betweenReads.segment (d.first + o)).current
        after := s.betweenReads } := by
  simp only [profileAdvance, h, if_false, hstop]

theorem one_le_effHold (g : Segment) : 1 ≤ g.effHold := Nat.le_max_left ..

/-- What R76 says of the cursor that an advance from `start` leaves. -/
def CursorLands (d : ProfileDesc) (ts start : Nat) (res : CursorMove) : Prop :=
  start ≤ res.start ∧ (start ≤ ts → res.start ≤ ts) ∧ (res.ended = true → d.rep = .once ∧ d.count ≤ res.ordinal) ∧
    (res.ended = false → res.ordinal < d.count ∧ ∃ g, g = res.after.segment (d.first + res.ordinal) ∧
      ts < res.start + max 1 g.hold ∧ res.current = g.current)

/-- A fuel that suffices lets the advance end where it would under any larger one, and there the cursor lands. -/
theorem profileAdvance_lands (hcount : 1 ≤ d.count) {n : Nat} {o start : Nat} (hn : movesLeft d ts o start ≤ n) :
    CursorLands d ts start (profileAdvance d ts n s o start) ∧
      ∀ m, movesLeft d ts o start ≤ m → profileAdvance d ts m s o start = profileAdvance d ts n s o start := by
  induction n generalizing s o start with
  | zero => exact absurd (movesLeft_pos d ts o start) (by omega)
  | succ n ih =>
    have hmore (m : Nat) (hm : movesLeft d ts o start ≤ m) : ∃ k, m = k + 1 := by
      have hpos := movesLeft_pos d ts o start
      exact ⟨m - 1, by omega⟩
    by_cases hpast : d.count ≤ o
    · cases hrep : d.rep with
      | once =>
        rw [profileAdvance_once hpast hrep]
        refine ⟨⟨le_rfl, id, fun _ => ⟨hrep, hpast⟩, nofun⟩, fun m hm => ?_⟩
        obtain ⟨k, rfl⟩ := hmore m hm
        exact profileAdvance_once hpast hrep ..
      | wrap =>
        have hleft := movesLeft_wrap (ts := ts) (start := start) hcount hpast
        obtain ⟨hlands, hfuel⟩ := ih (s := s) (o := 0) (start := start) (by omega)
        rw [profileAdvance_wrap hpast hrep]
        refine ⟨hlands, fun m hm => ?_⟩
        obtain ⟨k, rfl⟩ := hmore m hm
        rw [profileAdvance_wrap hpast hrep]
        exact hfuel k (by omega)
    · by_cases hpass : start + (s.betweenReads.segment (d.first + o)).effHold ≤ ts
      · have hleft := movesLeft_pass (ts := ts) hpast (one_le_effHold _) hpass
        obtain ⟨⟨hstart, hts, hend, hland⟩, hfuel⟩ := ih (s := s.betweenReads) (o := o + 1)
          (start := start + (s.betweenReads.segment (d.first + o)).effHold) (by omega)
        rw [profileAdvance_pass hpast hpass]
        refine ⟨⟨(Nat.le_add_right ..).trans hstart, fun _ => hts hpass, hend, hland⟩, fun m hm => ?_⟩
        obtain ⟨k, rfl⟩ := hmore m hm
        rw [profileAdvance_pass hpast hpass]
        exact hfuel k (by omega)
      · rw [profileAdvance_stop hpast hpass]
        refine ⟨⟨le_rfl, id, nofun, fun _ => ⟨Nat.lt_of_not_le hpast, _, rfl, Nat.lt_of_not_le hpass, rfl⟩⟩, fun m hm => ?_⟩
        obtain ⟨k, rfl⟩ := hmore m hm
        exact profileAdvance_stop hpast hpass _

theorem profileAdvance_of_fuel (hcount : 1 ≤ d.count) {n o start : Nat} (hn : movesLeft d ts o start ≤ n) (s : State) :
    profileAdvance d ts n s o start = profileAdvance d ts (profileFuel ts start) s o start :=
  (profileAdvance_lands hcount (movesLeft_le ..)).2 n hn

/-! ## What lands before a read -/

/-- Nothing more lands once the free port would not start another access for the request. -/
theorem landWrite_of_still (hfree : s.port = .free) (hstill : s.portNext.port ≠ .access) : s.landWrite = s := by
  have hnext : s.portNext = s := by
    unfold State.portNext at hstill ⊢
    cases hdue : s.dueAccess with
    | none => rfl
    | some k =>
      cases k with
      | fetch => rfl
      | management => exact absurd rfl (hdue ▸ hstill)
  rw [State.landWrite, hnext, State.completeAccess, hfree]

theorem landWrites_of_still (hfree : s.port = .free) (hstill : s.portNext.port ≠ .access) (n : Nat) : s.landWrites n = s := by
  induction n with
  | zero => rfl
  | succ n ih => rw [State.landWrites, landWrite_of_still hfree hstill, ih]

/-- What `n` landed writes of the request `r` in execution leave of the port, the job and the queues. -/
def landedBooks (s : State) (j : TableJob) (r : Request) (rest : List Request) (n : Nat) : State :=
  { s with
    port := if n = 0 then s.port else .free
    portLast := if n = 0 then s.portLast else .management
    job := if n = j.left then none
      else some { j with index := j.index + n, left := j.left - n, data := j.data.drop (4 * n) }
    requests := if n = j.left then rest else s.requests
    answers :=
      if n = j.left then
        s.answers ++ [{ tag := r.tag, code := r.code, status := .ok, results := j.out, resets := false }]
      else s.answers }

/-- `u` is what `n` landed writes of the request in execution leave: each record whole, in the order of the request. -/
def LandsWrites (s : State) (j : TableJob) (r : Request) (rest : List Request) (n : Nat) (u : State) : Prop :=
  u = { landedBooks s j r rest n with segmentTable := u.segmentTable } ∧
    ∀ i : Nat, u.segment i =
      if j.index ≤ i ∧ i < j.index + n then
        (readSegment ((j.data.drop (4 * (i - j.index))).take 4)).getD (s.segment i)
      else s.segment i

theorem landsWrites_zero {j : TableJob} (hjob : s.job = some j) (hleft : 0 < j.left) (r : Request) (rest : List Request) :
    LandsWrites s j r rest 0 s := by
  refine ⟨?_, fun i => ?_⟩
  · have hne : ¬ 0 = j.left := by omega
    simp [landedBooks, hne, ← hjob]
  · rw [if_neg (by omega)]

/-- A table request whose next segment write can land is the job, and the port makes its access next. -/
theorem segmentWrite_eq_some {j : TableJob} :
    s.segmentWrite = some j ↔ s.job = some j ∧ j.write = true ∧ j.table = .segment ∧ s.portNext.port = .access := by
  rw [State.segmentWrite, Option.filter_eq_some_iff]
  simp [and_assoc]

theorem portNext_portLast (hbook : s.port = .access → s.portLast = .management) (h : s.portNext.port = .access) :
    s.portNext.portLast = .management := by
  unfold State.portNext at h ⊢
  cases hdue : s.dueAccess with
  | none =>
    rw [hdue] at h
    exact hbook h
  | some k =>
    cases k with
    | fetch =>
      rw [hdue] at h
      exact hbook h
    | management => rfl

/-- One write lands. -/
theorem landsWrites_one {j : TableJob} {r : Request} {rest : List Request} (h : s.segmentWrite = some j)
    (hreq : s.requests = r :: rest) (hbook : s.port = .access → s.portLast = .management) (hleft : 0 < j.left)
    (hwf : Table.wf Segment.reset 2048 s.segmentTable = true) : LandsWrites s j r rest 1 s.landWrite := by
  obtain ⟨-, -, -, haccess⟩ := segmentWrite_eq_some.mp h
  have hlast : j.left - 1 = 0 ↔ 1 = j.left := by omega
  rw [State.landWrite_of_segmentWrite h hreq, portNext_portLast hbook haccess]
  refine ⟨?_, fun i => ?_⟩
  · simp [landedBooks, hlast]
  · have hindex : (j.index ≤ i ∧ i < j.index + 1) ↔ i = j.index := by omega
    simp only [hindex]
    cases hread : readSegment (j.data.take 4) with
    | none =>
      simp only [State.segment]
      split
      · next hi => simp [hi, hread]
      · rfl
    | some g =>
      simp only [State.segment]
      rw [Table.read_write hwf]
      split
      · next hi => simp [hi, hread]
      · rfl

/-- The segment table after one landing is in canonical form again. -/
theorem landWrite_wf {j : TableJob} {r : Request} {rest : List Request} (h : s.segmentWrite = some j)
    (hreq : s.requests = r :: rest) (hindex : j.index < 2048) (hwf : Table.wf Segment.reset 2048 s.segmentTable = true) :
    Table.wf Segment.reset 2048 s.landWrite.segmentTable = true := by
  rw [State.landWrite_of_segmentWrite h hreq]
  cases readSegment (j.data.take 4) with
  | none => exact hwf
  | some g => exact Table.wf_write hwf hindex

/-- The request after its next access. -/
def nextJob (j : TableJob) : TableJob := { j with index := j.index + 1, left := j.left - 1, data := j.data.drop 4 }

/-- One landing and then `n` others. -/
theorem landsWrites_succ {j : TableJob} {r : Request} {rest : List Request} {n : Nat} {u v : State} (hmore : 1 < j.left)
    (hone : LandsWrites s j r rest 1 u) (h : LandsWrites u (nextJob j) r rest n v) : LandsWrites s j r rest (n + 1) v := by
  obtain ⟨hu, huseg⟩ := hone
  obtain ⟨hv, hvseg⟩ := h
  refine ⟨hv.trans ?_, fun i => ?_⟩
  · generalize v.segmentTable = vt
    generalize u.segmentTable = ut at hu
    subst hu
    have hlast : n = j.left - 1 ↔ n + 1 = j.left := by omega
    have hfirst : ¬ 1 = j.left := by omega
    have hleft : j.left - 1 - n = j.left - (n + 1) := by omega
    have hindex : j.index + 1 + n = j.index + (n + 1) := by omega
    have hdata : 4 + 4 * n = 4 * (n + 1) := by omega
    simp [landedBooks, nextJob, hlast, hfirst, hleft, hindex, hdata]
  · have hindex : (nextJob j).index = j.index + 1 := rfl
    have hdata : (nextJob j).data = j.data.drop 4 := rfl
    rw [hvseg, huseg]
    by_cases hi : (nextJob j).index ≤ i ∧ i < (nextJob j).index + n
    · have hdrop : 4 + 4 * (i - (nextJob j).index) = 4 * (i - j.index) := by omega
      rw [if_pos hi, if_neg (by omega), if_pos (by omega), hdata, List.drop_drop, hdrop]
    · rw [if_neg hi]
      exact if_congr (by omega) rfl rfl

/-- The free port makes a management access only for a job, and with no fetch waiting unless the last access was a fetch. -/
theorem dueAccess_of_portNext (hfree : s.port = .free) (h : s.portNext.port = .access) :
    s.job.isSome = true ∧ (s.fetchQueue ≠ [] → s.portLast = .fetch) := by
  have hdue : s.dueAccess = some .management := by
    unfold State.portNext at h
    cases hdue : s.dueAccess with
    | none => simp [hdue, hfree] at h
    | some k =>
      cases k with
      | fetch => simp [hdue, hfree] at h
      | management => rfl
  refine ⟨(dueAccess_management hdue).2, fun hqueue => ?_⟩
  cases hlast : s.portLast with
  | fetch => rfl
  | management =>
    unfold State.dueAccess at hdue
    split at hdue
    · cases hq : s.fetchQueue with
      | nil => exact absurd hq hqueue
      | cons c rest => cases hj : s.job <;> simp [hq, hj, hlast] at hdue
    · cases hdue

/-- The writes that land one after another: as many as asked for, unless the port has a fetch to start or no access left. -/
theorem landWrites_lands {n : Nat} {j : TableJob} {r : Request} {rest : List Request} (h : s.segmentWrite = some j)
    (hreq : s.requests = r :: rest) (hbook : s.port = .access → s.portLast = .management) (hleft : 0 < j.left)
    (hn : n ≤ j.left) (hend : j.index + j.left ≤ 2048) (hwf : Table.wf Segment.reset 2048 s.segmentTable = true) :
    ∃ k ≤ n, (s.fetchQueue ≠ [] → k ≤ 1) ∧ LandsWrites s j r rest k (s.landWrites n) := by
  induction n generalizing s j with
  | zero => exact ⟨0, le_rfl, fun _ => Nat.zero_le _, landsWrites_zero (segmentWrite_eq_some.mp h).1 hleft r rest⟩
  | succ n ih =>
    have hone := landsWrites_one h hreq hbook hleft hwf
    have hwf' := landWrite_wf h hreq (by omega) hwf
    rw [State.landWrites]
    by_cases hstill : s.landWrite.portNext.port = .access
    · have hfree : s.landWrite.port = .free := by rw [hone.1]; rfl
      obtain ⟨hsome, hturn⟩ := dueAccess_of_portNext hfree hstill
      have hmore : ¬ 1 = j.left := fun hlast => by
        have hnone : s.landWrite.job = none := by
          rw [hone.1]
          exact if_pos hlast
        simp [hnone] at hsome
      have hjob' : s.landWrite.job = some (nextJob j) := by
        rw [hone.1]
        exact if_neg hmore
      have hreq' : s.landWrite.requests = r :: rest := by
        rw [hone.1]
        exact (if_neg hmore).trans hreq
      have hqueue : s.fetchQueue = [] := by
        by_contra hne
        have hlast : s.landWrite.portLast = .management := by rw [hone.1]; rfl
        have hfetch := hturn (by rw [hone.1]; exact hne)
        exact absurd (hlast.symm.trans hfetch) (by decide)
      obtain ⟨-, hwrite, htable, -⟩ := segmentWrite_eq_some.mp h
      have hleft' : (nextJob j).left = j.left - 1 := rfl
      have hindex' : (nextJob j).index = j.index + 1 := rfl
      obtain ⟨k, hk, -, hlands⟩ := ih (segmentWrite_eq_some.mpr ⟨hjob', hwrite, htable, hstill⟩) hreq'
        (fun hp => absurd (hfree.symm.trans hp) (by decide)) (by omega) (by omega) (by omega) hwf'
      exact ⟨k + 1, by omega, fun hne => absurd hqueue hne, landsWrites_succ (by omega) hone hlands⟩
    · refine ⟨1, by omega, fun _ => le_rfl, ?_⟩
      rwa [landWrites_of_still (by rw [hone.1]; rfl) hstill]

/-- The model's own count of the reads is no part of what the port does next. -/
theorem segmentWrite_readRaces (s : State) (n : Nat) : State.segmentWrite { s with readRaces := n } = s.segmentWrite := by
  have hdue : State.dueAccess { s with readRaces := n } = s.dueAccess := rfl
  have hport : (State.portNext { s with readRaces := n }).port = s.portNext.port := by
    unfold State.portNext
    rw [hdue]
    cases s.dueAccess with
    | none => rfl
    | some k => cases k <;> rfl
  unfold State.segmentWrite
  rw [hport]

/-- Settles O26: the cursor by `profileAdvance_lands`, the landings by `landWrites_lands`. -/
theorem profileCursorLands : Obligations.ProfileCursorLands := by
  refine ⟨fun s d ts o start hcount res hres => ?_, fun s h => State.betweenReads_of_none h,
    fun s j r rest h hreq hbooks hjob hwf => ?_⟩
  · have hlands := (profileAdvance_lands hcount (movesLeft_le d ts o start) (s := s)).1
    rw [← hres] at hlands
    obtain ⟨hstart, hts, hend, hland⟩ := hlands
    have hfuel : profileFuel ts start = 2 * (ts - start) + 2 + 1 := rfl
    rw [hfuel] at hres
    refine ⟨hstart, hts, hend, hland, fun hpast hrep => hres.trans (profileAdvance_once hpast hrep ..),
      fun hpast hrep => ?_, ?_⟩
    · rw [hres, profileAdvance_wrap hpast hrep]
      refine profileAdvance_of_fuel hcount ?_ s
      have hleft := movesLeft_wrap (ts := ts) (start := start) hcount hpast
      have hle := movesLeft_le d ts o start
      rw [hfuel] at hle
      omega
    · rintro u g rfl rfl
      refine ⟨fun hin hstop => ?_, fun hin hpass => ?_⟩
      · exact hres.trans (profileAdvance_stop (Nat.not_le.mpr hin) (Nat.not_le.mpr hstop) _)
      · rw [hres, profileAdvance_pass (Nat.not_le.mpr hin) hpass]
        refine profileAdvance_of_fuel hcount ?_ _
        have hleft := movesLeft_pass (ts := ts) (Nat.not_le.mpr hin) (one_le_effHold _) hpass
        have hle := movesLeft_le d ts o start
        rw [hfuel] at hle
        omega
  · obtain ⟨-, -, haccess, -⟩ := hbooks
    obtain ⟨-, -, -, hsegments, -⟩ := hwf
    obtain ⟨hjobEq, -, htable, -⟩ := segmentWrite_eq_some.mp h
    simp only [State.jobOk, hjobEq, Option.all_some, Bool.and_eq_true, decide_eq_true_eq, htable] at hjob
    obtain ⟨hleft, hend⟩ := hjob
    have hbetween : s.betweenReads =
        State.landWrites { s with readRaces := s.readRaces + 1 } (min j.left (Config.writesLanding s.readRaces)) := by
      rw [State.betweenReads, h]
    obtain ⟨k, hk, hone, hlands⟩ := landWrites_lands (s := { s with readRaces := s.readRaces + 1 })
      (n := min j.left (Config.writesLanding s.readRaces)) ((segmentWrite_readRaces ..).trans h) hreq
      (fun hp => (haccess hp).2) hleft (Nat.min_le_left ..) hend hsegments
    rw [← hbetween] at hlands
    exact ⟨k, hk.trans (Nat.min_le_left ..), hone, hlands⟩

end Sys2Proof.Proofs
end

section
/-! The two transmitters and the refresh timer (Sections 5.4, 5.5 and 8.4 to 8.7): O28, O29 and O30. -/

namespace Sys2Proof.Proofs

open Sys2Proof Sys2Proof.Machine

variable {s : State} {c : ChanId}

/-! ## The DN arbiter -/

theorem foldl_older_of_lt {l : List ChanId} {best : Option ChanId} (hc : c ∈ l ∨ best = some c)
    (hbest : ∀ b, best = some b → b ≠ c → (s.chan c).sp.since.getD 0 < (s.chan b).sp.since.getD 0)
    (hl : ∀ d ∈ l, d ≠ c → (s.chan c).sp.since.getD 0 < (s.chan d).sp.since.getD 0) : l.foldl s.older best = some c := by
  induction l generalizing best with
  | nil => exact hc.resolve_left List.not_mem_nil
  | cons d l ih =>
    refine ih ?_ (fun b hb hne => ?_) fun e he => hl e (List.mem_cons_of_mem _ he)
    · obtain hmem | rfl := hc
      · obtain rfl | hmem := List.mem_cons.mp hmem
        · refine .inr ?_
          cases hbe : best with
          | none => rfl
          | some b =>
            by_cases hbc : b = c
            · subst hbc
              simp [State.older]
            · exact if_pos (hbest b hbe hbc)
        · exact .inl hmem
      · refine .inr ?_
        by_cases hdc : d = c
        · subst hdc
          simp [State.older]
        · exact if_neg (Nat.lt_asymm (hl d List.mem_cons_self hdc))
    · have hcand : b = d ∨ best = some b := by
        cases hbe : best with
        | none =>
          rw [hbe] at hb
          exact .inl (Option.some.inj hb).symm
        | some b' =>
          rw [hbe, State.older] at hb
          split at hb
          · exact .inl (Option.some.inj hb).symm
          · exact .inr hb
      obtain rfl | hb := hcand
      · exact hl _ List.mem_cons_self hne
      · exact hbest b hb hne

/-- The oldest pending frame of a kind is the one that every other of its kind is younger than. -/
theorem oldest_eq_some {p : SpFrame → Bool} (hc : (s.chan c).sp.pending.any p = true)
    (hl : ∀ d, d ≠ c → (s.chan d).sp.pending.any p = true →
      (s.chan c).sp.since.getD 0 < (s.chan d).sp.since.getD 0) : s.oldest p = some c :=
  foldl_older_of_lt (.inl (List.mem_filter.mpr ⟨List.mem_finRange c, hc⟩)) nofun fun d hd hne =>
    hl d hne (List.mem_filter.mp hd).2

theorem oldest_eq_none {p : SpFrame → Bool} (h : ∀ d, (s.chan d).sp.pending.any p = false) : s.oldest p = none := by
  unfold State.oldest
  rw [List.filter_eq_nil_iff.mpr fun d _ => by simp [h d]]
  rfl

/-! ## The start of a DN transmission -/

theorem exec_dnTransmitStart (hs : s.attends) : exec .dnTransmitStart s = .next s.startDn := by
  have hexec : exec .dnTransmitStart s = .next (s.event State.startDn) := rfl
  rw [hexec, State.event_of_attends hs]

theorem startDn_of_slot (htx : s.dnTx = none) (h : s.dnChoice = some c) : s.startDn = s.startSetpoint c := by
  simp only [State.startDn, htx, h]

theorem startDn_of_relay (htx : s.dnTx = none) (h : s.dnChoice = none) : s.startDn = s.startRelayDown := by
  simp only [State.startDn, htx, h]

theorem dnChoice_of_open (h : s.oldest SpFrame.isOpen = some c) : s.dnChoice = some c := by rw [State.dnChoice, h]

theorem dnChoice_of_noOpen (h : ∀ d, (s.chan d).sp.pending.any SpFrame.isOpen = false) :
    s.dnChoice = if 8 ≤ s.relayWait ∧ s.relayDown ≠ [] then none else s.oldest (fun f => !f.isOpen) := by
  rw [State.dnChoice, oldest_eq_none h]
  simp

theorem startSetpoint_eq {f : SpFrame} (h : (s.chan c).sp.pending = some f) :
    s.startSetpoint c = { s with
      dnTx := some { frame := setpointFrame f (s.chan c).sp.nextSeq, channel := some c }
      relayWait := if s.relayDown = [] then s.relayWait else min 8 (s.relayWait + 1)
      channels := s.channels.set c.val { s.chan c with
        sp := { (s.chan c).sp with
          pending := none, inTx := some (f, (s.chan c).sp.nextSeq), nextSeq := (s.chan c).sp.nextSeq + 1 } } } := by
  rw [State.startSetpoint, h]
  simp only [List.isEmpty_iff]
  rfl

/-- Settles O28, by the arbiter's order. -/
theorem dnTransmitStarts : Obligations.DnTransmitStarts := by
  intro s hs htx
  refine ⟨fun c f hpend hcase => ?_, fun f rest hrelay hopen hwait => ?_, fun hrelay hnone => ?_⟩
  · have hchoice : s.dnChoice = some c := by
      obtain ⟨hopen, hold⟩ | ⟨hother, hwait, hopen, hold⟩ := hcase
      · refine dnChoice_of_open (oldest_eq_some ?_ hold)
        simp [hpend, SpFrame.isOpen, hopen]
      · rw [dnChoice_of_noOpen hopen, if_neg fun h => hwait.elim (Nat.not_lt.mpr h.1) h.2]
        refine oldest_eq_some (by simp [hpend, SpFrame.isOpen, hother]) fun d hne hd => hold d hne ?_
        exact Option.isSome_of_any hd
    rw [exec_dnTransmitStart hs, startDn_of_slot htx hchoice, ← startSetpoint_eq hpend]
  · have hchoice : s.dnChoice = none := by
      rw [dnChoice_of_noOpen hopen]
      obtain hfull | hnone := hwait
      · rw [if_pos ⟨hfull, by simp [hrelay]⟩]
      · rw [oldest_eq_none (fun d => by simp [hnone d]), ite_self]
    rw [exec_dnTransmitStart hs, startDn_of_relay htx hchoice]
    simp only [State.startRelayDown, hrelay]
  · have hchoice : s.dnChoice = none := by
      rw [dnChoice_of_noOpen (fun d => by simp [hnone d]), oldest_eq_none (fun d => by simp [hnone d]), ite_self]
    rw [exec_dnTransmitStart hs, startDn_of_relay htx hchoice]
    simp only [State.startRelayDown, hrelay]

/-! ## The completion of a DN transmission -/

theorem exec_dnTransmitComplete (hs : s.attends) : exec .dnTransmitComplete s = .next s.completeDn := by
  have hexec : exec .dnTransmitComplete s = .next (s.event State.completeDn) := rfl
  rw [hexec, State.event_of_attends hs]

/-- INIT ends with the last final ZERO (R182, R185). -/
theorem endInit_of_emptied (s : State) (c : ChanId) :
    State.endInit { s with dnTx := none, channels := s.channels.set c.val { s.chan c with sp := Setpoint.reset } } =
      { s with
        dnTx := none, channels := s.channels.set c.val { s.chan c with sp := Setpoint.reset }
        engine :=
          if s.engine = .init ∧ s.clearing = false ∧
              ∀ d, d ≠ c → (s.chan d).sp.pending.any (fun g => g.final) = false ∧
                (s.chan d).sp.inTx.any (fun g => g.1.final) = false then
            (if s.estopN then .ready else .estop)
          else s.engine } := by
  generalize hu : ({ s with dnTx := none, channels := s.channels.set c.val { s.chan c with sp := Setpoint.reset } } : State) = u
  have hchan (d : ChanId) : u.chan d = if d = c then { s.chan c with sp := Setpoint.reset } else s.chan d := by
    rw [← hu]
    exact State.setChan_chan s c d _
  have hall : (allChannels.all fun d => !(u.chan d).sp.awaitingFinal) = true ↔
      ∀ d, d ≠ c → (s.chan d).sp.pending.any (fun g => g.final) = false ∧
        (s.chan d).sp.inTx.any (fun g => g.1.final) = false := by
    rw [List.all_eq_true]
    refine ⟨fun h d hd => ?_, fun h d _ => ?_⟩
    · have hd' := h d (List.mem_finRange d)
      rw [hchan, if_neg hd] at hd'
      simpa [Setpoint.awaitingFinal] using hd'
    · rw [hchan]
      by_cases hd : d = c
      · rw [if_pos hd]
        rfl
      · rw [if_neg hd]
        simpa [Setpoint.awaitingFinal] using h d hd
  unfold State.endInit
  simp only [hall]
  subst hu
  split <;> rfl

/-- The refresh timer starts again unless the channel is OFF or in shadow mode (R96). -/
theorem completeTx_refresh (sp : Setpoint) (f : SpFrame) (st : ChState) (shadow : Bool) (expiry : Tick) :
    sp.completeTx f (st != .off && !shadow) expiry =
      { sp with
        inTx := none, lastTx := some { stage := f.stage, command := f.command, current := f.current }
        refresh := if st = .off ∨ shadow = true then sp.refresh else some expiry } := by
  cases st <;> cases shadow <;> rfl

/-- Settles O29: completions by the frame in transmission, then `refreshExpire` by what the slot holds. -/
theorem dnCompletionAndRefresh : Obligations.DnCompletionAndRefresh := by
  refine ⟨fun s x hs htx => ?_, fun s c hs => ?_⟩
  · rw [exec_dnTransmitComplete hs]
    refine ⟨fun hrelay => ?_, fun c hc => ⟨fun hfree => ?_, fun f n hf => ⟨fun hnot => ?_, fun hfinal => ?_⟩⟩⟩
    · simp only [State.completeDn, htx, hrelay]
    · simp only [State.completeDn, htx, hc, hfree]
    · simp only [State.completeDn, htx, hc, hf, hnot, Bool.false_eq_true, if_false]
      simp only [State.modSp, State.modChan, completeTx_refresh]
      rfl
    · rw [← endInit_of_emptied]
      simp only [State.completeDn, htx, hc, hf, hfinal, if_true]
      rfl
  · have hexec : exec (.refreshExpiry c) s = .next (s.event fun s => s.refreshExpire c) := rfl
    rw [hexec, State.event_of_attends hs]
    refine ⟨fun hne => by rw [refreshExpire_of_ne hne], fun hnow => ⟨fun f hlast hpend htx hs => ?_, fun hfull => ?_⟩⟩
    · rw [refreshExpire_of_empty hnow hlast (by simp [Setpoint.isEmpty, hpend, htx]) hs]
      rfl
    · rw [refreshExpire_of_full hnow]
      · rfl
      · simp only [Setpoint.isEmpty, Bool.and_eq_false_iff, Option.isNone_eq_false_iff, Option.isSome_iff_ne_none]
        tauto

/-! ## The UP transmitter -/

theorem exec_upTransmitStart (hs : s.attends) : exec .upTransmitStart s = .next s.startUp := by
  have hexec : exec .upTransmitStart s = .next (s.event State.startUp) := rfl
  rw [hexec, State.event_of_attends hs]

/-- Settles O30, by what waits for the UP transmitter. -/
theorem upTransmissions : Obligations.UpTransmissions := by
  intro s hs
  rw [exec_upTransmitStart hs]
  refine ⟨fun a rest htx ha => ?_, fun r rest htx ha hr hturn => ?_, fun f rest htx ha hf hturn => ?_,
    fun htx ha hr hf => ?_, fun f htx => ⟨?_, ?_⟩⟩
  · simp only [State.startUp, htx, ha]
  · have hreport : s.startUp = s.startReport := by
      cases hf : s.relayUp with
      | nil => simp only [State.startUp, htx, ha, hr, hf]
      | cons f fs =>
        have hserved := hturn.resolve_left (by simp [hf])
        simp only [State.startUp, htx, ha, hr, hf, hserved]
    rw [hreport]
    simp only [State.startReport, hr]
  · have hrelay : s.startUp = s.startRelayUp := by
      cases hr : s.reports with
      | nil => simp only [State.startUp, htx, ha, hr]
      | cons r rs =>
        have hserved := hturn.resolve_left (by simp [hr])
        simp only [State.startUp, htx, ha, hr, hf, hserved]
    rw [hrelay]
    simp only [State.startRelayUp, hf]
  · simp only [State.startUp, htx, ha, hr, State.startRelayUp, hf]
  · simp only [State.startUp, htx]
  · have hexec : exec .upTransmitComplete s = .next (s.event State.completeUp) := rfl
    rw [hexec, State.event_of_attends hs]
    simp only [State.completeUp, htx, Bool.false_eq_true, if_false]

end Sys2Proof.Proofs
end

section
/-! The supervisor (Section 6): deliveries by the channel's state (O32, O33, O34), PLAUSIBILITY and silence events (O35, O37), and
what a delivery's kinds, a score and a fault entry are (O36). -/

namespace Sys2Proof.Proofs

open Sys2Proof Sys2Proof.Machine

variable {s : State} {c : ChanId}

/-! ## Trips and entries of a channel that has already changed -/

/-- Channel `c` with the tracking, the score and the level given. -/
def rescored (s : State) (c : ChanId) (tr : Tracking) (n : Nat) (lv : Level) : Channel :=
  { s.chan c with track := tr, sup := { (s.chan c).sup with score := n, level := lv } }

theorem after_trip (s : State) (c : ChanId) (tr : Tracking) (n : Nat) (lv : Level) (l : List Body) (e : FaultEntry) (r : Reason) :
    (s.after c (rescored s c tr n lv) 0 l).trip c e r = { s.after c
      { s.tripped c e s.nextSince with
        track := tr, sup := { (s.tripped c e s.nextSince).sup with score := n, level := lv } }
      1 (l ++ s.faultBodyOf c e .trip :: s.stateBody c (s.chan c).state (s.tripState c) lv r) with
      fetchQueue := s.fetchWithout c, port := s.port.abandon c } := by
  rw [State.trip_eq_after, State.after_after, State.after_chan_self, State.leaveFetch, State.after_fetchQueue, State.after_port]
  unfold State.tripped
  rw [State.after_slot, State.after_entered, State.after_faultBodyOf, State.after_stateBody, State.after_tripState,
    State.after_chan_self, State.after_nextSince]
  simp only [Nat.add_zero, ite_self, State.slot]
  rfl

theorem after_recordOnly (s : State) (c : ChanId) (tr : Tracking) (n : Nat) (lv : Level) (l : List Body) (e : FaultEntry) :
    (s.after c (rescored s c tr n lv) 0 l).recordOnly c e =
      s.after c
        { rescored s c tr n lv with sup := { (rescored s c tr n lv).sup with fault := s.entered c e } } 0
        (l ++ [s.faultBodyOf c e .recordOnly]) := by
  rw [State.recordOnly_eq_after, State.after_after, State.after_chan_self, State.after_entered, State.after_faultBodyOf]
  rfl

/-- A channel that takes part in the score. -/
abbrev scoring (st : ChState) : Prop := st = .running ∨ st = .held ∨ st = .complete

/-- Channel `c` after a score update. -/
abbrev scoredChannel (s : State) (c : ChanId) (n : Nat) : Channel := rescored s c (s.chan c).track n (band n)

/-- The STATE record of a score update that leaves the band (R110). -/
def levelBodies (s : State) (c : ChanId) (n : Nat) : List Body :=
  if band n = (s.chan c).sup.level then [] else s.stateBody c (s.chan c).state (s.chan c).state (band n) .level

theorem setScore_eq (s : State) (c : ChanId) (n : Nat) : s.setScore c n = s.after c (scoredChannel s c n) 0 (levelBodies s c n) :=
  State.setScore_eq_after ..

theorem setScore_faultIn_running (h : (s.chan c).state = .running) (n : Nat) (e : FaultEntry) :
    (s.setScore c n).faultIn c e = { s.after c
      { s.tripped c e s.nextSince with
        sup := { (s.tripped c e s.nextSince).sup with score := n, level := band n } }
      1 (levelBodies s c n ++ s.faultBodyOf c e .trip :: s.stateBody c .running (s.tripState c) (band n) .trip) with
      fetchQueue := s.fetchWithout c, port := s.port.abandon c } := by
  have hfault : (s.setScore c n).faultIn c e = (s.setScore c n).trip c e .trip := by
    rw [State.faultIn, setScore_chan_state, h]
  rw [hfault, setScore_eq, after_trip, h]
  rfl

theorem setScore_faultIn_other (h : (s.chan c).state = .held ∨ (s.chan c).state = .complete) (n : Nat) (e : FaultEntry) :
    (s.setScore c n).faultIn c e = s.after c
      { scoredChannel s c n with sup := { (scoredChannel s c n).sup with fault := s.entered c e } } 0
      (levelBodies s c n ++ [s.faultBodyOf c e .recordOnly]) := by
  have hfault : (s.setScore c n).faultIn c e = (s.setScore c n).recordOnly c e := by
    rw [State.faultIn, setScore_chan_state]
    obtain h | h := h <;> rw [h]
  rw [hfault, setScore_eq, after_recordOnly]

/-! ## Deliveries -/

/-- The causes that a delivery raises: its hard kinds, then SCORE (R106, R109). -/
def raisedCauses (l : LimitSet) (d : Delivery) (score : Nat) : List Cause :=
  hardKinds l d ++ if 255 < score + 8 * softCount l d ∧ 0 < softCount l d then [.score] else []

/-- The score after a delivery (R109). -/
def deliveryScore (l : LimitSet) (d : Delivery) (score : Nat) : Nat :=
  if 0 < softCount l d then min 255 (score + 8 * softCount l d) else if hardKinds l d = [] then score - 1 else score

/-- A delivery in RUNNING, HELD or COMPLETE. -/
theorem supervise_of_scoring (h : scoring (s.chan c).state) (d : Delivery) :
    s.supervise c d =
      match raisedCauses (s.limits c) d (s.chan c).sup.score with
      | x :: t => (s.setScore c (deliveryScore (s.limits c) d (s.chan c).sup.score)).faultIn c
          (deliveryEntry (s.limits c) d x t)
      | [] => s.setScore c (deliveryScore (s.limits c) d (s.chan c).sup.score) := by
  have hcauses : hardKinds (s.limits c) d ++
      (if scoreRaised (s.chan c).sup.score (softCount (s.limits c) d) then [.score] else []) =
        raisedCauses (s.limits c) d (s.chan c).sup.score := by
    unfold raisedCauses scoreRaised
    simp [and_comm]
  have hscore : scoreAfter (s.chan c).sup.score (softCount (s.limits c) d) (!(hardKinds (s.limits c) d).isEmpty) =
      deliveryScore (s.limits c) d (s.chan c).sup.score := by
    unfold scoreAfter deliveryScore
    cases hardKinds (s.limits c) d <;> rfl
  unfold State.supervise
  dsimp only
  rw [hcauses, hscore]
  obtain h | h | h := h <;> rw [h] <;> rfl

theorem supervise_of_off (h : (s.chan c).state = .off) (d : Delivery) : s.supervise c d = s := by
  simp only [State.supervise, h]

/-- Settles O32. -/
theorem deliveryScored : Obligations.DeliveryScored := by
  refine ⟨?_, fun s c d h => supervise_of_off h d⟩
  rintro s c d l old n sum causes lv lvb hst rfl rfl hlevel rfl hcauses rfl rfl hlvb
  have hbodies : lvb = levelBodies s c (deliveryScore (s.limits c) d (s.chan c).sup.score) := by
    rw [hlvb, levelBodies, hlevel]
    rfl
  have hraised : raisedCauses (s.limits c) d (s.chan c).sup.score = causes := hcauses.symm
  rw [supervise_of_scoring hst, hraised, hbodies]
  refine ⟨fun hnone => ?_, fun hrun x t hsome e he => ?_⟩
  · rw [hnone]
    exact setScore_eq ..
  · rw [hsome, he]
    exact setScore_faultIn_other (hst.resolve_left hrun) _ _

/-! ## Trips and the sequencer's part -/

theorem sequence_of_not_running (h : (s.chan c).state ≠ .running) (d : Delivery) : s.sequence c d = s := by
  unfold State.sequence
  cases hst : (s.chan c).state with
  | running => exact absurd hst h
  | off | held | complete | isolated => rfl

theorem tripState_ne_running (s : State) (c : ChanId) : s.tripState c ≠ .running := by
  unfold State.tripState
  cases (s.cfg c).policy <;> decide

/-- A transition in flight keeps the delivery in the pending-evaluation slot (R78). -/
theorem sequence_of_inFlight (hrun : (s.chan c).state = .running) (hin : (s.chan c).seq.inFlight = true) (d : Delivery) :
    s.sequence c d = s.after c
      { s.chan c with
        seq := { (s.chan c).seq with
          pendingEval := some d
          lostEval := if (s.chan c).seq.pendingEval = none then (s.chan c).seq.lostEval
            else min 65535 ((s.chan c).seq.lostEval + 1) } } 0 [] := by
  have hlost : (if (s.chan c).seq.pendingEval.isSome then bump (s.chan c).seq.lostEval else (s.chan c).seq.lostEval) =
      if (s.chan c).seq.pendingEval = none then (s.chan c).seq.lostEval else min 65535 ((s.chan c).seq.lostEval + 1) := by
    cases (s.chan c).seq.pendingEval <;> rfl
  simp only [State.sequence, hrun, hin, if_true, State.modSeq_eq_after, hlost]

/-- Settles O33: the trip by `supervise_of_scoring`, the sequencer by the state that is left. -/
theorem deliveryTrips : Obligations.DeliveryTrips := by
  refine ⟨?_, ?_⟩
  · rintro s c d l old n sum x t e u lvb hrun rfl rfl hlevel rfl hcauses hn rfl hlvb hu
    have hraised : raisedCauses (s.limits c) d (s.chan c).sup.score = x :: t := hcauses.symm
    have hscore : n = deliveryScore (s.limits c) d (s.chan c).sup.score := by
      rw [hn, deliveryScore]
      split
      · rfl
      · next hsoft =>
        rw [if_neg]
        rintro hnone
        rw [hnone, if_neg fun h => hsoft h.2] at hcauses
        cases hcauses
    have hbodies : lvb = levelBodies s c n := by rw [hlvb, levelBodies, hlevel, hrun]
    have hchan : (u.chan c).state = s.tripState c := by
      have hmoved : u = moved s c _ 1 _ _ _ := hu
      rw [hmoved, moved_chan_self]
      rfl
    refine ⟨?_, sequence_of_not_running (hchan ▸ tripState_ne_running s c) d⟩
    rw [supervise_of_scoring (.inl hrun), hraised, ← hscore, hu, hbodies]
    exact setScore_faultIn_running hrun _ _
  · rintro s c d q rfl
    refine ⟨fun hrun hin => sequence_of_inFlight hrun hin d, fun hrun hidle => ?_, fun h => sequence_of_not_running h d⟩
    simp only [State.sequence, hrun, hidle, Bool.false_eq_true, if_false]

/-! ## ISOLATED -/

/-- A delivery in ISOLATED (R114, R116). -/
theorem supervise_of_isolated (h : (s.chan c).state = .isolated) (d : Delivery) :
    s.supervise c d =
      match hardKinds (s.limits c) d with
      | x :: t => s.isolatedFault c (deliveryEntry (s.limits c) d x t)
      | [] =>
        if 0 < softCount (s.limits c) d then s.modSup c (fun u => { u with recovery := 0 }) else s.countClean c := by
  unfold State.supervise
  dsimp only
  rw [h] <;> rfl

/-- Settles O34, by the kinds that the delivery carries. -/
theorem deliveryIsolated : Obligations.DeliveryIsolated := by
  rintro s c d l u hst rfl rfl
  rw [supervise_of_isolated hst]
  refine ⟨fun x t hhard => ?_, fun hhard hsoft => ?_, fun hhard hsoft hestop => ?_, fun hhard hsoft hready =>
    ⟨fun hfew => ?_, fun hmany ch hch => ?_⟩⟩
  · rw [hhard]
    exact State.isolatedFault_eq_after ..
  · simp only [hhard, hsoft, if_true]
    exact State.modSup_eq_after ..
  · simp only [hhard, hsoft, Nat.lt_irrefl, if_false, State.countClean, hestop]
  · simp only [hhard, hsoft, Nat.lt_irrefl, if_false, State.countClean, hready]
    rw [if_neg (Nat.not_le.mpr (Nat.succ_lt_succ hfew))]
    exact State.modSup_eq_after ..
  · simp only [hhard, hsoft, Nat.lt_irrefl, if_false, State.countClean, hready]
    rw [if_pos (Nat.succ_le_succ hmany), State.recover_eq_after s c ch hch, hst]
    have hindex : ch.seq.index = (s.chan c).seq.index := by rw [hch]
    rw [hindex]

/-! ## PLAUSIBILITY -/

/-- A PLAUSIBILITY event in RUNNING, HELD or COMPLETE (R111). -/
theorem plausibility_of_scoring (h : scoring (s.chan c).state) :
    s.plausibility c =
      if 248 ≤ (s.chan c).sup.score then
        (s.setScore c (min 255 ((s.chan c).sup.score + 8))).faultIn c (FaultEntry.bare .score)
      else s.setScore c (min 255 ((s.chan c).sup.score + 8)) := by
  have hraised : scoreRaised (s.chan c).sup.score 1 = true ↔ 248 ≤ (s.chan c).sup.score := by
    simp only [scoreRaised, Bool.and_eq_true, decide_eq_true_iff, Config.scoreMax, Config.softWeight]
    omega
  have hscore : scoreAfter (s.chan c).sup.score 1 false = min 255 ((s.chan c).sup.score + 8) := rfl
  have hevent : s.plausibility c =
      if scoreRaised (s.chan c).sup.score 1 then
        (s.setScore c (scoreAfter (s.chan c).sup.score 1 false)).faultIn c (FaultEntry.bare .score)
      else s.setScore c (scoreAfter (s.chan c).sup.score 1 false) := by
    unfold State.plausibility
    obtain h | h | h := h <;> rw [h]
  rw [hevent, hscore]
  exact if_congr hraised rfl rfl

theorem scoring_of_ne {st : ChState} (hoff : st ≠ .off) (hiso : st ≠ .isolated) : scoring st := by
  cases st with
  | off => exact absurd rfl hoff
  | isolated => exact absurd rfl hiso
  | running => exact .inl rfl
  | held => exact .inr (.inl rfl)
  | complete => exact .inr (.inr rfl)

/-- Settles O35, by the state of the channel. -/
theorem plausibilityEvents : Obligations.PlausibilityEvents := by
  rintro s c st old n lvb rfl rfl hlevel rfl hlvb
  have hbodies : lvb = levelBodies s c (min 255 ((s.chan c).sup.score + 8)) := by rw [hlvb, levelBodies, hlevel]
  rw [hbodies]
  refine ⟨fun hoff => ?_, fun hiso => ?_, fun hoff hiso hlow => ?_, fun hrun hhigh => ?_, fun hst hhigh => ?_⟩
  · simp only [State.plausibility, hoff]
  · have hevent : s.plausibility c = s.modSup c (fun u => { u with recovery := 0 }) := by
      simp only [State.plausibility, hiso]
    rw [hevent, State.modSup_eq_after]
  · rw [plausibility_of_scoring (scoring_of_ne hoff hiso), if_neg (by omega)]
    exact setScore_eq ..
  · rw [plausibility_of_scoring (.inl hrun), if_pos hhigh]
    exact setScore_faultIn_running hrun _ _
  · rw [plausibility_of_scoring (.inr hst), if_pos hhigh]
    exact setScore_faultIn_other hst _ _

/-! ## A silence timer expires -/

/-- The tracking of a channel whose silence timer has expired (R12, R13). -/
def silenced (t : Tracking) : Tracking :=
  { t with reference := none, lastArrival := none, lastPrimary := none, silence := none }

theorem silenceExpire_of_now (h : (s.chan c).track.silence = some s.timeBase) :
    s.silenceExpire c =
      (s.after c (rescored s c (silenced (s.chan c).track) (s.chan c).sup.score (s.chan c).sup.level) 0 []).silenceEvent c := by
  rw [State.silenceExpire, if_pos h, State.modTrack_eq_after]
  rfl

/-- Settles O37, by the state of the channel. -/
theorem silenceExpires : Obligations.SilenceExpires := by
  rintro s c e tr hs rfl rfl
  have hexec : exec (.silenceExpiry c) s = .next (s.event fun s => s.silenceExpire c) := rfl
  rw [hexec, State.event_of_attends hs]
  refine ⟨fun hne => congrArg _ (if_neg hne), fun hnow => ?_⟩
  have hstate : ((s.after c (rescored s c (silenced (s.chan c).track) (s.chan c).sup.score (s.chan c).sup.level) 0 []).chan
      c).state = (s.chan c).state := by rw [State.after_chan_self]; rfl
  rw [silenceExpire_of_now hnow, State.silenceEvent, hstate]
  refine ⟨fun hst => ?_, fun hst => ?_, fun hst => ?_, fun hst => ?_⟩
  · rw [hst]
    dsimp only
    rw [after_trip, hst]
    rfl
  · obtain hst | hst := hst <;> rw [hst] <;> exact congrArg Host.Outcome.next (after_recordOnly ..)
  · rw [hst]
    dsimp only
    rw [State.isolatedFault_eq_after, State.after_after, State.after_chan_self, State.after_entered]
    rfl
  · rw [hst]
    rfl

/-! ## Kinds, levels and fault entries -/

theorem usableTemps_any_iff (d : Delivery) (p : Int → Bool) :
    (usableTemps d).any p = true ↔ ∃ x, (d.t = some x ∨ d.aux = some x) ∧ p x = true := by
  rw [List.any_eq_true]
  simp [usableTemps]

theorem tempOutside_iff (l : LimitSet) (x : Int) : tempOutside l x = true ↔ x < l.tHardMin ∨ l.tHardMax < x := by
  simp [tempOutside]

/-- A condition's kind is listed where it stands in the order of the kinds. -/
theorem sublist_ite_append {p : Prop} [Decidable p] {x : Cause} {l m : List Cause} (h : l.Sublist m) :
    ((if p then [x] else []) ++ l).Sublist (x :: m) := by
  split
  · exact h.cons_cons x
  · exact h.cons x

theorem hardKinds_sublist (l : LimitSet) (d : Delivery) :
    (hardKinds l d).Sublist [.stuck, .vHard, .iHard, .tHard, .tempMissing] := by
  simp only [hardKinds, List.append_assoc]
  refine sublist_ite_append (sublist_ite_append (sublist_ite_append (sublist_ite_append ?_)))
  split
  · exact .refl _
  · exact List.nil_sublist _

/-- An entry when the record is empty (R119). -/
theorem enter_of_empty {r : FaultRecord} (h : r.first = none) (e : FaultEntry) (mode : FaultMode) (pos : Nat × Nat) (now : Tick) :
    (r.enter e mode pos now).first = some e.lead ∧ (r.enter e mode pos now).firstPos = some pos ∧
      (r.enter e mode pos now).firstAt = some now ∧ (r.enter e mode pos now).firstVI = e.vi ∧
      (r.enter e mode pos now).firstT = e.t := by
  simp [FaultRecord.enter, h]

/-- Settles O36, part by part. -/
theorem hardKindsAndFaultEntries : Obligations.HardKindsAndFaultEntries := by
  refine ⟨fun l d => ⟨hardKinds_sublist l d, ?_, ?_, ?_, ?_, ?_⟩, ?_, ?_, ?_, ?_⟩
  · simp [hardKinds]
  · simp [hardKinds]
  · simp [hardKinds]
  · rw [← exists_congr fun x => and_congr_right fun _ => tempOutside_iff l x, ← usableTemps_any_iff]
    simp [hardKinds]
  · simp [hardKinds, usableTemps]
  · rintro r e pos now x mode rfl
    refine ⟨rfl, fun h => enter_of_empty h .., fun h => ?_, fun h hmode y => ?_, fun hmode y => ?_⟩
    · obtain ⟨f, hf⟩ := Option.ne_none_iff_exists'.mp h
      refine ⟨?_, ?_, ?_, ?_, ?_, fun hmode => ?_⟩ <;> simp [FaultRecord.enter, hf]
      rw [hmode]
    · simp [FaultRecord.enter, h, hmode, mem_causeUnion]
    · simp [FaultRecord.enter, hmode, mem_causeUnion, FaultEntry.causes]
  · intro l d vs ts hvs hts
    have hv : vSoft l d = vs := by
      rw [Bool.eq_iff_iff, hvs]
      simp [vSoft]
    have ht : tSoft l d = ts := by
      rw [Bool.eq_iff_iff, hts, tSoft, usableTemps_any_iff]
      simp
    rw [softCount, hv, ht]
  · intro n
    unfold band
    split
    · simp only [true_iff, reduceCtorEq, false_iff]
      omega
    · split
      · simp only [true_iff, reduceCtorEq, false_iff]
        omega
      · simp only [true_iff, reduceCtorEq, false_iff]
        omega
  · intro l d h out hout
    have hout' (x : Int) : out x ↔ tempOutside l x = true := (hout x).trans (tempOutside_iff l x).symm
    refine ⟨fun hne => ?_, fun x hx hx' => ?_, fun y hnot hy hy' => ?_⟩
    · cases h with
      | tHard => exact absurd rfl hne
      | _ => rfl
    · simp [entryTemp, usableTemps, hx, (hout' x).mp hx']
    · have hskip : d.t.toList.find? (tempOutside l) = none := by
        rw [List.find?_eq_none]
        exact fun x hx hx' => hnot x (Option.mem_toList.mp hx) ((hout' x).mpr hx')
      simp [entryTemp, usableTemps, List.find?_append, hskip, hy, (hout' y).mp hy']

end Sys2Proof.Proofs
end

section
/-! Which row a management request belongs to, and the requests that are answered without any effect (Sections 9.2 to 9.4 and 9.6): O46. -/

namespace Sys2Proof.Proofs

open Sys2Proof Sys2Proof.Machine

variable {s : State} {c : ChanId} {r : Request} {rest : List Request}

/-! ## The row of a request -/

/-- A code that is not 0, as a number above 0. -/
theorem toNat_of_ne_zero {t : Byte} (h : t ≠ 0) : ∃ n, t.toNat = n + 1 :=
  Nat.exists_eq_succ_of_ne_zero fun h' => h (BitVec.eq_of_toNat_eq h')

theorem readRow_cons {t : Byte} (h : t ≠ 0) (l : List Byte) : readRow (t :: l) =
    ([.readTableStep, .readTableProgram, .readTableProfileSeg, .readTableProfile, .readTableLimit, .readTableAccept,
      .readTableConfig] : List RequestRow).getD (t.toNat - 1) .readTableUndefinedTable := by
  obtain ⟨n, hn⟩ := toNat_of_ne_zero h
  have hcode : u8At (t :: l) 0 = n + 1 := hn
  rw [readRow, if_neg (List.cons_ne_nil t l), hcode, hn]
  match n with
  | 0 | 1 | 2 | 3 | 4 | 5 | 6 => rfl
  | _ + 7 => rfl

theorem writeRow_cons {t : Byte} (h : t ≠ 0) (l : List Byte) : writeRow (t :: l) =
    ([.writeTableStep, .writeTableProgram, .writeTableProfileSeg, .writeTableProfile, .writeTableLimit, .writeTableAccept,
      .writeTableConfig] : List RequestRow).getD (t.toNat - 1) .writeTableUndefinedTable := by
  obtain ⟨n, hn⟩ := toNat_of_ne_zero h
  have hcode : u8At (t :: l) 0 = n + 1 := hn
  rw [writeRow, if_neg (List.cons_ne_nil t l), hcode, hn]
  match n with
  | 0 | 1 | 2 | 3 | 4 | 5 | 6 => rfl
  | _ + 7 => rfl

theorem commandRow_cons {t : Byte} (h : t ≠ 0) (x : Byte) (l : List Byte) : commandRow (x :: t :: l) =
    ([.configure, .start, .hold, .resume, .stop, .jump, .clearFault, .clearTotals] : List RequestRow).getD
      (t.toNat - 1) .undefinedChannelCommand := by
  obtain ⟨n, hn⟩ := toNat_of_ne_zero h
  have hcode : u8At (x :: t :: l) 1 = n + 1 := hn
  rw [commandRow, if_neg (by simp), hcode, hn]
  match n with
  | 0 | 1 | 2 | 3 | 4 | 5 | 6 | 7 => rfl
  | _ + 8 => rfl

theorem engineRow_cons {t : Byte} (h : t ≠ 0) (l : List Byte) : engineRow (t :: l) =
    ([.resetEngine, .clearEstop] : List RequestRow).getD (t.toNat - 1) .undefinedEngineCommand := by
  obtain ⟨n, hn⟩ := toNat_of_ne_zero h
  have hcode : u8At (t :: l) 0 = n + 1 := hn
  rw [engineRow, if_neg (List.cons_ne_nil t l), hcode, hn]
  match n with
  | 0 | 1 => rfl
  | _ + 2 => rfl

theorem row_of_unknown (h : r.code.toNat = 0 ∨ 11 ≤ r.code.toNat) : r.row = .unknownRequest := by
  obtain h | h := h
  · simp only [Request.row, h]
  · obtain ⟨n, hn⟩ := Nat.exists_eq_add_of_le' h
    simp only [Request.row, hn]

/-- The part of O46 about rows. -/
theorem row_cases (r : Request) (n : Nat) (hn : n = r.code.toNat) :
    (n = 1 → r.row = .identify) ∧ (n = 5 → r.row = .readChannel) ∧ (n = 6 → r.row = .readAccounts) ∧
    (n = 7 → r.row = .readFault) ∧ (n = 8 → r.row = .readCounters) ∧ (n = 9 → r.row = .clearCounters) ∧
    ((n = 0 ∨ 11 ≤ n) → r.row = .unknownRequest) ∧ (n = 2 → r.row = readRow r.args) ∧ (n = 3 → r.row = writeRow r.args) ∧
    (n = 4 → r.row = commandRow r.args) ∧ (n = 10 → r.row = engineRow r.args) := by
  subst hn
  refine ⟨fun h => ?_, fun h => ?_, fun h => ?_, fun h => ?_, fun h => ?_, fun h => ?_, row_of_unknown, fun h => ?_,
    fun h => ?_, fun h => ?_, fun h => ?_⟩ <;> simp only [Request.row, h]

/-- The rows of the channel commands that are defined. -/
def commandRows : List RequestRow := [.configure, .start, .hold, .resume, .stop, .jump, .clearFault, .clearTotals]

theorem readRow_not_command (l : List Byte) : readRow l ∉ commandRows := by
  unfold readRow
  split
  · decide
  · split <;> decide

theorem writeRow_not_command (l : List Byte) : writeRow l ∉ commandRows := by
  unfold writeRow
  split
  · decide
  · split <;> decide

theorem engineRow_not_command (l : List Byte) : engineRow l ∉ commandRows := by
  unfold engineRow
  split
  · decide
  · split <;> decide

/-- A command row is given only to a payload that holds a command code. -/
theorem two_le_of_commandRow (h : r.row ∈ commandRows) : 2 ≤ r.args.length := by
  by_contra hshort
  unfold Request.row at h
  split at h
  case h_2 => exact readRow_not_command _ h
  case h_3 => exact writeRow_not_command _ h
  case h_4 =>
    rw [commandRow, if_pos (Nat.not_le.mp hshort)] at h
    exact absurd h (by decide)
  case h_10 => exact engineRow_not_command _ h
  all_goals exact absurd h (by decide)

/-! ## Channel commands that are refused before the channel controller sees them -/

/-- The results that a command's answer carries (R165). -/
theorem commandResults_of_channel (hlen : 2 ≤ r.args.length) (hc : u8At r.args 0 = c.val) :
    s.commandResults r = commandLine r (s.chan c).state := by
  have hlt : u8At r.args 0 < 32 := hc ▸ c.isLt
  have hchan : (⟨u8At r.args 0, hlt⟩ : ChanId) = c := Fin.ext hc
  rw [State.commandResults, if_pos hlen, dif_pos hlt, hchan, commandLine]

theorem commandResults_of_ge (h : 32 ≤ u8At r.args 0) : s.commandResults r = [] := by
  rw [State.commandResults, dif_neg (Nat.not_lt.mpr h), ite_self]

theorem commandAnswer_eq_answered (hs : s.executes r rest) (st : Status) :
    s.commandAnswer r st = s.answered r rest st (s.commandResults r) := by
  obtain ⟨-, -, hidle, -, -, hhead⟩ := hs
  exact State.placeAnswer_eq_answered st _ hhead hidle

theorem runCommand_of_badLength {n : Nat} (h : r.args.length ≠ 2 + n) (b : Bool) (act : State → ChanId → Status × State) :
    s.runCommand r n b act = s.commandAnswer r .badLength := if_neg h

theorem runCommand_of_ge {n : Nat} (h : 32 ≤ u8At r.args 0) (b : Bool) (act : State → ChanId → Status × State) :
    s.runCommand r n b act = s.commandAnswer r (if r.args.length = 2 + n then .badArgument else .badLength) := by
  unfold State.runCommand
  split
  · rw [dif_neg (Nat.not_lt.mpr h)]
  · rfl

theorem runCommand_of_outOfRange {n : Nat} (h : r.commands c n) (act : State → ChanId → Status × State) :
    s.runCommand r n false act = s.commandAnswer r .badArgument := by
  unfold State.runCommand
  obtain ⟨hlen, hc⟩ := h
  have hlt : u8At r.args 0 < 32 := hc ▸ c.isLt
  rw [if_pos hlen, dif_pos hlt]
  rfl

/-- A command row: `exec` runs the command on `n` bytes of arguments. -/
def CommandRow (i : Instr) (row : RequestRow) (n : Nat) : Prop :=
  row ∈ commandRows ∧ ∀ s : State, ∃ (b : Request → Bool) (act : Request → State → ChanId → Status × State),
    exec i s = execRow row (fun s r => s.runCommand r n (b r) (act r)) s

theorem commandRow_refusals {i : Instr} {row : RequestRow} {n : Nat} (h : CommandRow i row n) (hs : s.executes r rest)
    (hrow : r.row = row) :
    (∀ c : ChanId, u8At r.args 0 = c.val → r.args.length ≠ 2 + n →
      exec i s = .next (s.answered r rest .badLength (commandLine r (s.chan c).state))) ∧
    (32 ≤ u8At r.args 0 →
      exec i s = .next (s.answered r rest (if r.args.length = 2 + n then .badArgument else .badLength) [])) := by
  obtain ⟨hmem, hexec⟩ := h
  obtain ⟨b, act, hexec⟩ := hexec s
  have hlen : 2 ≤ r.args.length := two_le_of_commandRow (hrow ▸ hmem)
  rw [hexec, execRow_of_executes hs hrow]
  refine ⟨fun c hc hbad => ?_, fun hge => ?_⟩
  · rw [runCommand_of_badLength hbad, commandAnswer_eq_answered hs, commandResults_of_channel hlen hc]
  · rw [runCommand_of_ge hge, commandAnswer_eq_answered hs, commandResults_of_ge hge]

theorem commandRow_of_mem : ∀ x : Instr × RequestRow × Nat,
    x ∈ [(Instr.configure, RequestRow.configure, 16), (.start, .start, 3), (.hold, .hold, 0), (.resume, .resume, 1),
      (.stop, .stop, 0), (.jump, .jump, 2), (.clearFault, .clearFault, 0), (.clearTotals, .clearTotals, 0)] →
    CommandRow x.1 x.2.1 x.2.2 := by
  intro x hx
  simp only [List.mem_cons, List.not_mem_nil, or_false] at hx
  rcases hx with rfl | rfl | rfl | rfl | rfl | rfl | rfl | rfl <;> exact ⟨by decide, fun s => ⟨_, _, rfl⟩⟩

/-- A command whose arguments are out of their ranges. -/
theorem execRow_of_outOfRange {row : RequestRow} {f : State → Request → State} {n : Nat} {b : Bool}
    {act : State → ChanId → Status × State} (hs : s.executes r rest) (hrow : r.row = row) (hc : r.commands c n)
    (hf : f s r = s.runCommand r n b act) (hb : b = false) :
    execRow row f s = .next (s.answered r rest .badArgument (commandLine r (s.chan c).state)) := by
  rw [execRow_of_executes hs hrow, hf, hb, runCommand_of_outOfRange hc, commandAnswer_eq_answered hs,
    commandResults_of_channel (hc.1 ▸ Nat.le_add_right 2 n) hc.2]

/-- A command code that is not defined, or none. -/
theorem exec_undefinedChannelCommand (hs : s.executes r rest) (hrow : r.row = .undefinedChannelCommand) :
    exec .undefinedChannelCommand s =
      .next (s.answered r rest (if r.args.length < 2 then .badLength else .badArgument) (s.commandResults r)) := by
  have hexec : exec .undefinedChannelCommand s = execRow .undefinedChannelCommand reqUndefinedChannelCommand s := rfl
  rw [hexec, execRow_of_executes hs hrow, reqUndefinedChannelCommand]
  split <;> rw [commandAnswer_eq_answered hs]

/-! ## Requests of a fixed length -/

/-- A row that checks the length of its payload first. -/
def LengthRow (i : Instr) (row : RequestRow) (n : Nat) : Prop :=
  ∀ s : State, ∃ f : State → Request → State, exec i s = execRow row f s ∧
    ∀ r : Request, r.args.length ≠ n → f s r = s.refuse r .badLength

theorem lengthRow_of_mem : ∀ x : Instr × RequestRow × Nat,
    x ∈ [(Instr.identify, RequestRow.identify, 0), (.readCounters, .readCounters, 0), (.clearCounters, .clearCounters, 0),
      (.readChannel, .readChannel, 1), (.readAccounts, .readAccounts, 1), (.readFault, .readFault, 1),
      (.readTableLimit, .readTableLimit, 4), (.readTableAccept, .readTableAccept, 4),
      (.readTableConfig, .readTableConfig, 4), (.resetEngine, .resetEngine, 1), (.clearEstop, .clearEstop, 1)] →
    LengthRow x.1 x.2.1 x.2.2 := by
  intro x hx s
  simp only [List.mem_cons, List.not_mem_nil, or_false] at hx
  rcases hx with rfl | rfl | rfl | rfl | rfl | rfl | rfl | rfl | rfl | rfl | rfl
  case inr.inr.inr.inr.inr.inr.inl | inr.inr.inr.inr.inr.inr.inr.inl | inr.inr.inr.inr.inr.inr.inr.inr.inl =>
    exact ⟨_, rfl, fun r h => if_pos h⟩
  all_goals exact ⟨_, rfl, fun r h => if_neg h⟩

/-! ## Reads of one channel -/

theorem exec_readOfChannel_of_ge (hs : s.executes r rest) (hlen : r.args.length = 1) (hge : 32 ≤ u8At r.args 0) :
    ∀ x : Instr × RequestRow,
      x ∈ [(Instr.readChannel, RequestRow.readChannel), (.readAccounts, .readAccounts), (.readFault, .readFault)] →
      r.row = x.2 → exec x.1 s = .next (s.answered r rest .badArgument []) := by
  intro x hx hrow
  simp only [List.mem_cons, List.not_mem_nil, or_false] at hx
  rcases hx with rfl | rfl | rfl
  · exact execRow_readOfChannel_of_ge hs hrow hlen hge fun s c => channelBytes c (s.cfg c).configured (s.chan c)
  · exact execRow_readOfChannel_of_ge hs hrow hlen hge fun s c => accountBytes c (s.chan c).acct
  · exact execRow_readOfChannel_of_ge hs hrow hlen hge fun s c => faultBytes c (s.chan c).sup.fault

theorem readBool_of_lt {n : Nat} (h : 1 < n) : readBool n = none := by
  match n, h with
  | n + 2, _ => rfl

/-- Settles O46: the rows by their codes, the refusals by the check that fails. -/
theorem requestRowsAndRefusals : Obligations.RequestRowsAndRefusals := by
  refine ⟨fun r n hn => ?_, fun s r rest hs => ?_, fun s r rest hs => ?_⟩
  · obtain ⟨h1, h5, h6, h7, h8, h9, hunknown, h2, h3, h4, h10⟩ := row_cases r n hn
    refine ⟨h1, h5, h6, h7, h8, h9, hunknown, fun h ha => ?_, fun h ha => ?_, fun h ha => ?_, fun h ha => ?_,
      fun t l h ha ht => ?_, fun t l h ha ht => ?_, fun x t l h ha ht => ?_, fun t l h ha ht => ?_, fun l h ha => ?_,
      fun l h ha => ?_, fun x l h ha => ?_, fun l h ha => ?_⟩
    · rw [h2 h, ha]; rfl
    · rw [h3 h, ha]; rfl
    · rw [h4 h, commandRow, if_pos ha]
    · rw [h10 h, ha]; rfl
    · rw [h2 h, ha, readRow_cons ht]
    · rw [h3 h, ha, writeRow_cons ht]
    · rw [h4 h, ha, commandRow_cons ht]
    · rw [h10 h, ha, engineRow_cons ht]
    · rw [h2 h, ha]; rfl
    · rw [h3 h, ha]; rfl
    · rw [h4 h, ha]; rfl
    · rw [h10 h, ha]; rfl
  · refine ⟨fun x hx hrow => commandRow_refusals (commandRow_of_mem x hx) hs hrow, fun c hrow hlen hc => ?_,
      fun hrow hlen hge => ?_, fun hrow hshort => ?_, fun c => ⟨fun hrow hc hbad => ?_, fun hrow hc hbad => ?_,
      fun hrow hc hbad => ?_, fun hrow hc hbad => ?_⟩⟩
    · rw [exec_undefinedChannelCommand hs hrow, if_neg (Nat.not_lt.mpr hlen), commandResults_of_channel hlen hc]
    · rw [exec_undefinedChannelCommand hs hrow, if_neg (Nat.not_lt.mpr hlen), commandResults_of_ge hge]
    · rw [exec_undefinedChannelCommand hs hrow, if_pos hshort, State.commandResults, if_neg (Nat.not_le.mpr hshort)]
    · refine execRow_of_outOfRange hs hrow hc (f := reqStart) rfl ?_
      rw [Bool.and_eq_false_iff, decide_eq_false_iff_not, decide_eq_false_iff_not]
      omega
    · exact execRow_of_outOfRange hs hrow hc (f := reqResume) rfl (by rw [readBool_of_lt hbad]; rfl)
    · exact execRow_of_outOfRange hs hrow hc (f := reqJump) rfl (decide_eq_false (Nat.not_le.mpr hbad))
    · exact execRow_of_outOfRange hs hrow hc (f := reqConfigure) rfl (by rw [hbad]; rfl)
  · refine ⟨fun hrow => ?_, fun hrow => ?_, fun hrow => ?_, fun hrow => ?_, fun hrow => ?_, fun x hx hrow hlen => ?_,
      fun x hx hrow hlen hge => exec_readOfChannel_of_ge hs hlen hge x hx hrow⟩
    · exact (execRow_of_executes hs hrow).trans (congrArg _ (State.refuse_eq_answered _ hs))
    · refine (execRow_of_executes hs hrow).trans (congrArg _ ?_)
      rw [reqReadTableUndefinedTable, State.refuse_eq_answered _ hs, State.refuse_eq_answered _ hs, ite_not]
      split <;> rfl
    · refine (execRow_of_executes hs hrow).trans (congrArg _ ?_)
      rw [reqWriteTableUndefinedTable, State.refuse_eq_answered _ hs, State.refuse_eq_answered _ hs]
      split <;> rfl
    · exact (execRow_of_executes hs hrow).trans (congrArg _ (State.refuse_eq_answered _ hs))
    · refine (execRow_of_executes hs hrow).trans (congrArg _ ?_)
      rw [reqUndefinedEngineCommand, State.refuse_eq_answered _ hs, State.refuse_eq_answered _ hs]
      split <;> rfl
    · obtain ⟨f, hexec, hbad⟩ := lengthRow_of_mem x hx s
      rw [hexec, execRow_of_executes hs hrow, hbad r hlen, State.refuse_eq_answered _ hs]

end Sys2Proof.Proofs
end

section
/-! The requests that read the engine back, and CLEAR_COUNTERS (Section 9.5): O48. -/

namespace Sys2Proof.Proofs

open Sys2Proof Sys2Proof.Machine

variable {s : State} {c : ChanId} {r : Request} {rest : List Request}

/-! ## Requests of no argument -/

theorem withLength_of_eq {n : Nat} (h : r.args.length = n) (f : State) : s.withLength r n f = f := if_pos h

/-- A row without arguments that answers OK and changes nothing else. -/
theorem execRow_withLength_ok {row : RequestRow} (hs : s.executes r rest) (hrow : r.row = row) (hargs : r.args = [])
    (results : State → List Byte) :
    execRow row (fun s r => s.withLength r 0 (s.placeAnswer r .ok (results s))) s =
      .next (s.answered r rest .ok (results s)) := by
  rw [execRow_of_executes hs hrow, withLength_of_eq (by rw [hargs]; rfl)]
  obtain ⟨-, -, hidle, -, -, hhead⟩ := hs
  rw [State.placeAnswer_eq_answered _ _ hhead hidle]

/-- What IDENTIFY answers once INIT is over (R144, R161). -/
theorem identity_eq (h : s.engine ≠ .init) :
    s.identity = [0xC0, 0x32, 0x01, 0xF0#8 + s.addrStrap.setWidth 8, if s.engine = .estop then 2 else 1,
      if s.rateStrap then 1 else 0] := by
  unfold State.identity
  cases he : s.engine with
  | init => exact absurd he h
  | ready | estop => rfl

/-! ## READ_CHANNEL -/

/-- The ten flags of a READ_CHANNEL answer as a number (R166). -/
theorem bitsNat_channelFlags (ch : Channel) : bitsNat (channelFlags ch) =
    ch.seq.inFlight.toNat + 2 * ch.seq.grace.toNat + 4 * ch.sp.pending.isSome.toNat +
      8 * ch.track.lastPrimary.isSome.toNat + 16 * ch.track.auxFresh.toNat + 32 * ch.acct.qSat.toNat +
      64 * ch.acct.eSat.toNat + 128 * ch.acct.tSat.toNat + 256 * ch.seq.stackOverflow.toNat +
      512 * ch.seq.stackUnderflow.toNat := by
  simp only [channelFlags, bitsNat]
  omega

theorem tempBytes_eq (t : Option Int) : tempBytes t = intBytes 2 (t.getD 0x8000) := by
  cases t with
  | none => decide
  | some x => rfl

theorem sampleBytes_eq (p : Option Sample) : sampleBytes p =
    match p with
    | none => [0, 0, 0, 0, 0, 0]
    | some p => natBytes 2 p.v ++ intBytes 2 p.i ++ intBytes 2 (p.t.getD 0x8000) := by
  cases p with
  | none => rfl
  | some p => rw [sampleBytes, tempBytes_eq]

theorem lastTxBytes_eq (f : Option LastTx) : lastTxBytes f =
    match f with
    | none => [0, 0, 0]
    | some x => natBytes 1 x.command.code ++ intBytes 2 x.current := by cases f <;> rfl

theorem holdPendingByte_eq (h : Option HoldKind) : natBytes 1 (holdPendingCode h) =
    [match h with
     | none => (0 : Byte)
     | some .command => 1
     | some .program => 2] := by
  cases h with
  | none => rfl
  | some k => cases k <;> rfl

theorem length_channelBytes (c : ChanId) (b : Bool) (ch : Channel) : (channelBytes c b ch).length = 50 := by
  have htemp (t : Option Int) : (tempBytes t).length = 2 := by rw [tempBytes_eq, length_intBytes]
  have hsample (p : Option Sample) : (sampleBytes p).length = 6 := by
    cases p with
    | none => exact length_natBytes 6 0
    | some p => simp only [sampleBytes, List.length_append, length_natBytes, length_intBytes, htemp]
  have htx (f : Option LastTx) : (lastTxBytes f).length = 3 := by
    cases f with
    | none => exact length_natBytes 3 0
    | some f => simp only [lastTxBytes, List.length_append, length_natBytes, length_intBytes]
  unfold channelBytes
  simp only [boolByte, List.length_append, List.length_singleton, length_natBytes, length_intBytes, hsample, htx,
    htemp]

theorem exec_readChannel (hs : s.executes r rest) (hrow : r.row = .readChannel) (hlen : r.args.length = 1)
    (hc : u8At r.args 0 = c.val) :
    exec .readChannel s = .next (s.answered r rest .ok (channelBytes c (s.cfg c).configured (s.chan c))) :=
  execRow_readOfChannel_of_lt hs hrow hlen hc fun s c => channelBytes c (s.cfg c).configured (s.chan c)

/-! ## The counters -/

/-- CLEAR_COUNTERS leaves every counter 0 (R169). -/
theorem exec_clearCounters (hs : s.executes r rest) (hrow : r.row = .clearCounters) (hargs : r.args = []) :
    exec .clearCounters s = .next (s.zeroCounters.answered r rest .ok []) := by
  have hexec : exec .clearCounters s = execRow .clearCounters reqClearCounters s := rfl
  obtain ⟨-, -, hidle, -, -, hhead⟩ := id hs
  have hjob : s.zeroCounters.job = none := hidle
  have hreq : s.zeroCounters.requests = r :: rest := hhead
  rw [hexec, execRow_of_executes hs hrow, reqClearCounters, withLength_of_eq (by rw [hargs]; rfl),
    State.placeAnswer_eq_answered _ _ hreq hjob]

/-- Settles O48, request by request. -/
theorem identityChannelAndCounters : Obligations.IdentityChannelAndCounters := by
  refine ⟨fun s r rest hs => ⟨fun hrow hargs => ?_, ?_⟩, fun s r rest hs hargs => ⟨fun hrow => ?_, fun hrow => ?_⟩⟩
  · have hready : s.engine ≠ .init := hs.2.1
    rw [← identity_eq hready]
    exact execRow_withLength_ok hs hrow hargs State.identity
  · rintro c ch out hrow hlen hc rfl hout
    have hbytes : out = channelBytes c (s.cfg c).configured (s.chan c) := by
      unfold channelBytes
      rw [hout, bitsNat_channelFlags, tempBytes_eq, sampleBytes_eq, lastTxBytes_eq, holdPendingByte_eq, boolByte] <;> rfl
    rw [hbytes]
    exact ⟨length_channelBytes .., exec_readChannel hs hrow hlen hc⟩
  · exact execRow_withLength_ok hs hrow hargs fun s => counterBytes s.link
  · refine ⟨s.zeroCounters, exec_clearCounters hs hrow hargs, rfl, fun c => ?_⟩
    exact mapped_chan s Channel.clearCounters c

end Sys2Proof.Proofs
end

section
/-! READ_TABLE of LIMIT, ACCEPT and CONFIG, and WRITE_TABLE of LIMIT and ACCEPT (Sections 1.1, 6.1 and 9.3): O49. -/

namespace Sys2Proof.Proofs

open Sys2Proof Sys2Proof.Machine

variable {s : State} {c : ChanId} {r : Request} {rest : List Request}

/-! ## Images of tables -/

/-- A row that reads an image of a table at this event (R162). -/
theorem readImage_eq_answered (hs : s.executes r rest) (hlen : r.args.length = 4) (size per : Nat) (image : Nat → List Byte) :
    s.readImage r size per image =
      if 1 ≤ u8At r.args 3 ∧ u8At r.args 3 ≤ per ∧ u16At r.args 1 + u8At r.args 3 ≤ size then
        s.answered r rest .ok ((List.range' (u16At r.args 1) (u8At r.args 3)).map image).flatten
      else s.answered r rest .badArgument [] := by
  have himage : (List.range r.count).flatMap (fun i => image (r.first + i)) =
      ((List.range' (u16At r.args 1) (u8At r.args 3)).map image).flatten := by
    rw [List.range'_eq_map_range, List.map_map, ← List.flatMap_def]
    rfl
  rw [State.readImage, if_neg (not_not.mpr hlen), State.refuse_eq_answered _ hs, himage]
  obtain ⟨-, -, hidle, -, -, hhead⟩ := hs
  rw [State.placeAnswer_eq_answered _ _ hhead hidle]
  exact if_congr (readRangeOk_iff ..) rfl rfl

/-! ## WRITE_TABLE of the limit sets -/

theorem exec_writeTableLimit (hs : s.executes r rest) (hrow : r.row = .writeTableLimit) :
    exec .writeTableLimit s = .next (s.writeLimits r) := execRow_of_executes hs hrow

theorem exec_writeTableAccept (hs : s.executes r rest) (hrow : r.row = .writeTableAccept) :
    exec .writeTableAccept s = .next (s.writeAccept r) := execRow_of_executes hs hrow

/-- The records of a WRITE_TABLE whose range lies in the table. -/
def carriedRecords {α : Type} (read : List Byte → Option α) (size entries : Nat) (r : Request) : Option (List α) :=
  if r.writeRangeOk entries then readRecords read size r.count r.records else none

theorem carriedRecords_eq_none {α : Type} {read : List Byte → Option α} {size entries : Nat}
    (h : u8At r.args 3 = 0 ∨ entries < u16At r.args 1 + u8At r.args 3 ∨
      readRecords read size (u8At r.args 3) (r.args.drop 4) = none) : carriedRecords read size entries r = none := by
  unfold carriedRecords
  split
  · next hrange =>
    obtain ⟨hone, hend⟩ := (writeRangeOk_iff ..).mp hrange
    obtain hzero | hbeyond | hnone := h
    · omega
    · omega
    · exact hnone
  · rfl

theorem carriedRecords_eq_some {α : Type} {read : List Byte → Option α} {size entries : Nat} {rs : List α}
    (hone : 1 ≤ u8At r.args 3) (hend : u16At r.args 1 + u8At r.args 3 ≤ entries)
    (h : readRecords read size (u8At r.args 3) (r.args.drop 4) = some rs) : carriedRecords read size entries r = some rs :=
  (if_pos ((writeRangeOk_iff ..).mpr ⟨hone, hend⟩)).trans h

theorem writeLimits_of_none (hmaint : s.maint = true) (hlen : r.writeLengthOk 24 = true)
    (h : carriedRecords readLimit 24 16 r = none) : s.writeLimits r = s.refuse r .badArgument := by
  have h' : (if r.writeRangeOk Config.limitSize then readRecords readLimit 24 r.count r.records else none) = none := h
  simp only [State.writeLimits, hmaint, hlen, if_true, h']

theorem writeLimits_of_some {sets : List LimitSet} (hmaint : s.maint = true) (hlen : r.writeLengthOk 24 = true)
    (h : carriedRecords readLimit 24 16 r = some sets) :
    s.writeLimits r =
      if s.limitInUse r.first sets then s.refuse r .inUse
      else ({ s with limitTable := Table.writeAll LimitSet.reset s.limitTable r.first sets }).placeAnswer r .ok [] := by
  have h' : (if r.writeRangeOk Config.limitSize then readRecords readLimit 24 r.count r.records else none) = some sets := h
  simp only [State.writeLimits, hmaint, hlen, if_true, h']

/-- A set that is given up is named by a configured channel that is not OFF (R103). -/
theorem limitInUse_iff (s : State) (i : Nat) (sets : List LimitSet) :
    s.limitInUse i sets = true ↔ ∃ (c : ChanId) (j : Nat), (s.cfg c).configured = true ∧ (s.chan c).state ≠ .off ∧
      j < sets.length ∧ (s.cfg c).limitSet = i + j ∧ (sets.getD j LimitSet.reset).valid = false := by
  have hall (c : ChanId) : c ∈ allChannels := List.mem_finRange c
  simp only [State.limitInUse, List.any_eq_true, hall, true_and, Bool.and_eq_true, bne_iff_ne, List.mem_range, beq_iff_eq,
    Bool.not_eq_true']
  constructor
  · rintro ⟨c, ⟨hconf, hon⟩, j, hj, hset, hvalid⟩
    exact ⟨c, j, hconf, hon, hj, hset, hvalid⟩
  · rintro ⟨c, j, hconf, hon, hj, hset, hvalid⟩
    exact ⟨c, ⟨hconf, hon⟩, j, hj, hset, hvalid⟩

/-! ## WRITE_TABLE of the acceptance table -/

theorem writeAccept_of_none (hlen : r.writeLengthOk 4 = true) (h : carriedRecords readAccept 4 64 r = none) :
    s.writeAccept r = s.refuse r .badArgument := by
  have h' : (if r.writeRangeOk Config.acceptSize then readRecords readAccept 4 r.count r.records else none) = none := h
  simp only [State.writeAccept, hlen, if_true, h']

theorem writeAccept_of_some {es : List AcceptEntry} (hlen : r.writeLengthOk 4 = true)
    (h : carriedRecords readAccept 4 64 r = some es) :
    s.writeAccept r =
      if s.acceptInUse r.first es then s.refuse r .inUse
      else if acceptConflict (Table.writeAll AcceptEntry.reset s.acceptTable r.first es) then s.refuse r .conflict
      else ({ s with acceptTable := Table.writeAll AcceptEntry.reset s.acceptTable r.first es }).placeAnswer r .ok [] := by
  have h' : (if r.writeRangeOk Config.acceptSize then readRecords readAccept 4 r.count r.records else none) = some es := h
  simp only [State.writeAccept, hlen, if_true, h']

theorem isPrimary_iff (e : AcceptEntry) : e.isPrimary = true ↔ e.enable = true ∧ e.role = .primary := by
  rw [AcceptEntry.isPrimary, Bool.and_eq_true, beq_iff_eq]

/-- A changed entry is, or becomes, an enabled PRIMARY entry of a channel that is not OFF (R3). -/
theorem acceptInUse_iff (s : State) (i : Nat) (es : List AcceptEntry) :
    s.acceptInUse i es = true ↔ ∃ x, i ≤ x ∧ x < i + es.length ∧ es.getD (x - i) AcceptEntry.reset ≠ s.acceptEntry x ∧
      (((s.acceptEntry x).enable = true ∧ (s.acceptEntry x).role = .primary ∧
          (s.chan (s.acceptEntry x).channel).state ≠ .off) ∨
        ((es.getD (x - i) AcceptEntry.reset).enable = true ∧ (es.getD (x - i) AcceptEntry.reset).role = .primary ∧
          (s.chan (es.getD (x - i) AcceptEntry.reset).channel).state ≠ .off)) := by
  simp only [State.acceptInUse, List.any_eq_true, List.mem_range, Bool.and_eq_true, Bool.or_eq_true, bne_iff_ne, isPrimary_iff,
    and_assoc]
  constructor
  · rintro ⟨j, hj, hne, huse⟩
    refine ⟨i + j, Nat.le_add_right i j, Nat.add_lt_add_left hj i, ?_⟩
    rw [Nat.add_sub_cancel_left]
    exact ⟨hne, huse⟩
  · rintro ⟨x, hx, hlt, hne, huse⟩
    obtain ⟨j, rfl⟩ := Nat.exists_eq_add_of_le hx
    rw [Nat.add_sub_cancel_left] at hne huse
    exact ⟨j, Nat.lt_of_add_lt_add_left hlt, hne, huse⟩

/-- A property holds of two numbers below `n` exactly when the list of those that have it has two members. -/
theorem one_lt_length_filter_range_iff (n : Nat) (p : Nat → Bool) :
    1 < ((List.range n).filter p).length ↔ ∃ x y, x < y ∧ y < n ∧ p x = true ∧ p y = true := by
  have hsorted : ((List.range n).filter p).Pairwise (· < ·) := List.pairwise_lt_range.filter p
  have hmem (x : Nat) : x ∈ (List.range n).filter p ↔ x < n ∧ p x = true := by rw [List.mem_filter, List.mem_range]
  cases hl : (List.range n).filter p with
  | nil =>
    refine iff_of_false (by simp) ?_
    rintro ⟨x, y, hxy, hy, hx, -⟩
    have hin := (hmem x).mpr ⟨hxy.trans hy, hx⟩
    rw [hl] at hin
    exact List.not_mem_nil hin
  | cons a l =>
    rw [hl] at hsorted
    cases l with
    | nil =>
      refine iff_of_false (by simp) ?_
      rintro ⟨x, y, hxy, hy, hpx, hpy⟩
      have hx := (hmem x).mpr ⟨hxy.trans hy, hpx⟩
      have hy := (hmem y).mpr ⟨hy, hpy⟩
      rw [hl, List.mem_singleton] at hx hy
      omega
    | cons b l =>
      refine iff_of_true (by simp) ⟨a, b, ?_⟩
      have ha := (hmem a).mp (by simp [hl])
      have hb := (hmem b).mp (by simp [hl])
      have hab := (List.pairwise_cons.mp hsorted).1 b List.mem_cons_self
      exact ⟨hab, hb.1, ha.2, hb.2⟩

/-- Two enabled PRIMARY entries name one channel (R3). -/
theorem acceptConflict_iff (t : Table AcceptEntry) {f : Nat → AcceptEntry} (hf : ∀ x, Table.read AcceptEntry.reset t x = f x) :
    acceptConflict t = true ↔ ∃ x y, x < y ∧ y < 64 ∧ (f x).enable = true ∧ (f y).enable = true ∧
      (f x).role = .primary ∧ (f y).role = .primary ∧ (f x).channel = (f y).channel := by
  have hall (c : ChanId) : c ∈ allChannels := List.mem_finRange c
  have hread : Table.read AcceptEntry.reset t = f := funext hf
  simp only [acceptConflict, List.any_eq_true, hall, true_and, decide_eq_true_iff]
  simp only [primaryCount, hread, List.filter_map, List.length_map, one_lt_length_filter_range_iff, Function.comp,
    Bool.and_eq_true, isPrimary_iff, beq_iff_eq]
  constructor
  · rintro ⟨c, x, y, hxy, hy, ⟨⟨hex, hrx⟩, hcx⟩, ⟨hey, hry⟩, hcy⟩
    exact ⟨x, y, hxy, hy, hex, hey, hrx, hry, hcx.trans hcy.symm⟩
  · rintro ⟨x, y, hxy, hy, hex, hey, hrx, hry, hch⟩
    exact ⟨(f y).channel, x, y, hxy, hy, ⟨⟨hex, hrx⟩, hch⟩, ⟨hey, hry⟩, rfl⟩

/-! ## The statement -/

theorem placeAnswer_after_table (hs : s.executes r rest) {t : State} (hreq : t.requests = s.requests) (hjob : t.job = s.job)
    (l : List Byte) : t.placeAnswer r .ok l = t.answered r rest .ok l := by
  obtain ⟨-, -, hidle, -, -, hhead⟩ := hs
  exact State.placeAnswer_eq_answered _ _ (hreq.trans hhead) (hjob.trans hidle)

/-- Settles O49: the reads by `readImage_eq_answered`, the writes by the check that fails first. -/
theorem immediateTableRequests : Obligations.ImmediateTableRequests := by
  refine ⟨?_, ?_⟩
  · rintro s r rest i n hs hlen rfl rfl
    refine ⟨fun hrow => ?_, fun hrow => ?_, fun hrow => ?_⟩ <;>
      exact (execRow_of_executes hs hrow).trans (congrArg _ (readImage_eq_answered hs hlen ..))
  rintro s r rest i n hs hwf rfl rfl
  obtain ⟨haccept, -, -, -, -, hlimit, -⟩ := hwf
  refine ⟨fun hrow => ?_, fun hrow => ?_⟩
  · rw [exec_writeTableLimit hs hrow]
    refine ⟨fun hclosed => ?_, fun hopen hbad => ?_, fun hopen hlong hlen hbad => ?_, fun sets hopen hlen hone hend hsets => ⟨?_, ?_⟩⟩
    · rw [State.writeLimits, hclosed, ← State.refuse_eq_answered _ hs]
      rfl
    · have hno : ¬ r.writeLengthOk 24 = true := fun h => (writeLengthOk_iff ..).mp h hbad
      rw [State.writeLimits, if_pos hopen, if_neg hno, State.refuse_eq_answered _ hs]
    · have hok : r.writeLengthOk 24 = true := (writeLengthOk_iff ..).mpr (by omega)
      rw [writeLimits_of_none hopen hok (carriedRecords_eq_none hbad), State.refuse_eq_answered _ hs]
    all_goals
      have hok : r.writeLengthOk 24 = true := (writeLengthOk_iff ..).mpr (by omega)
      have hcount := readRecords_length hsets
      rw [writeLimits_of_some hopen hok (carriedRecords_eq_some hone hend hsets)]
    · rintro ⟨c, j, hconf, hon, hj, hset, hvalid⟩
      rw [if_pos (show s.limitInUse r.first sets = true from (limitInUse_iff ..).mpr ⟨c, j, hconf, hon, hj.trans_eq hcount.symm, hset, hvalid⟩),
        State.refuse_eq_answered _ hs]
    · intro hfree
      have hnot : ¬ s.limitInUse r.first sets = true := by
        rw [limitInUse_iff]
        rintro ⟨c, j, hconf, hon, hj, hset, hvalid⟩
        exact absurd ((hfree c j hconf hon (hj.trans_eq hcount) hset).symm.trans hvalid) (by decide)
      rw [if_neg hnot]
      refine ⟨_, rfl, placeAnswer_after_table hs (t := { s with limitTable := Table.writeAll LimitSet.reset s.limitTable r.first sets }) rfl rfl [], fun x => ?_⟩
      have hread := Table.read_writeAll (vs := sets) (i := u16At r.args 1) hlimit (by omega) x
      rw [hcount] at hread
      exact hread
  · rw [exec_writeTableAccept hs hrow]
    refine ⟨fun hbad => ?_, fun hlong hlen hbad => ?_, ?_⟩
    · have hno : ¬ r.writeLengthOk 4 = true := fun h => (writeLengthOk_iff ..).mp h hbad
      rw [State.writeAccept, if_neg hno, State.refuse_eq_answered _ hs]
    · have hok : r.writeLengthOk 4 = true := (writeLengthOk_iff ..).mpr (by omega)
      rw [writeAccept_of_none hok (carriedRecords_eq_none hbad), State.refuse_eq_answered _ hs]
    · rintro es after_ hlen hone hend hes rfl inUse conflict huse hconflict
      have hok : r.writeLengthOk 4 = true := (writeLengthOk_iff ..).mpr (by omega)
      have hcount := readRecords_length hes
      have hread := Table.read_writeAll (vs := es) (i := u16At r.args 1) haccept (by omega)
      rw [hcount] at hread
      rw [writeAccept_of_some hok (carriedRecords_eq_some hone hend hes)]
      have huse' : s.acceptInUse r.first es = true ↔ inUse := by
        rw [huse, acceptInUse_iff, hcount]
        refine exists_congr fun x => and_congr_right fun hx => and_congr_right fun hlt => ?_
        have hin : u16At r.args 1 ≤ x ∧ x < u16At r.args 1 + u8At r.args 3 := ⟨hx, hlt⟩
        simp only [if_pos hin]
        exact Iff.rfl
      have hconflict' :
          acceptConflict (Table.writeAll AcceptEntry.reset s.acceptTable r.first es) = true ↔ conflict :=
        (acceptConflict_iff _ hread).trans hconflict.symm
      refine ⟨fun hin => ?_, fun hout hclash => ?_, fun hout hclear => ?_⟩
      · rw [if_pos (huse'.mpr hin), State.refuse_eq_answered _ hs]
      · rw [if_neg (huse'.not.mpr hout), if_pos (hconflict'.mpr hclash), State.refuse_eq_answered _ hs]
      · rw [if_neg (huse'.not.mpr hout), if_neg (hconflict'.not.mpr hclear)]
        exact ⟨_, rfl, placeAnswer_after_table hs
          (t := { s with acceptTable := Table.writeAll AcceptEntry.reset s.acceptTable r.first es }) rfl rfl [], hread⟩

end Sys2Proof.Proofs
end

section
/-! Power-on reset and the table clear (Section 11.2): O50. -/

namespace Sys2Proof.Proofs

open Sys2Proof Sys2Proof.Machine

variable {s : State} {c : ChanId}

/-! ## The end of INIT -/

/-- INIT ends with the table clear over and no final ZERO to wait for (R182, R185). -/
theorem endInit_eq (s : State) :
    s.endInit = { s with
      engine := if s.engine = .init ∧ s.clearing = false ∧ ∀ c : ChanId, (s.chan c).sp.awaitingFinal = false then s.initTarget
        else s.engine } := by
  have hall : (allChannels.all fun c => !(s.chan c).sp.awaitingFinal) = true ↔
      ∀ c : ChanId, (s.chan c).sp.awaitingFinal = false := by
    simp [allChannels]
  unfold State.endInit
  simp only [hall]
  split <;> rfl

theorem awaitingFinal_of_none {sp : Setpoint} (hp : sp.pending = none) (htx : sp.inTx = none) : sp.awaitingFinal = false := by
  rw [Setpoint.awaitingFinal, hp, htx]
  rfl

theorem exec_tableClearComplete (hs : s.attends) : exec .tableClearComplete s = .next s.clearTables :=
  congrArg Host.Outcome.next (State.event_of_attends hs State.clearTables)

theorem clearTables_of_clearing (h : s.clearing = true) :
    s.clearTables = State.endInit { s with
      clearing := false, acceptTable := [], stepTable := [], programTable := [], segmentTable := [], profileTable := []
      limitTable := [], configTable := [] } := if_pos h

theorem clearTables_of_not (h : s.clearing = false) : s.clearTables = s := if_neg (ne_true_of_eq_false h)

/-! ## RESET_N -/

theorem inReset_of_low (h : s.resetN = false) : s.inReset = true := by rw [State.inReset, h]; rfl

theorem event_of_low (h : s.resetN = false) (f : State → State) : s.event f = s := if_pos (inReset_of_low h)

/-- No request is executed while RESET_N is low (R183). -/
theorem execRow_of_low (h : s.resetN = false) (row : RequestRow) (f : State → Request → State) : execRow row f s = .next s := by
  have hquiet := State.quiet_of_reset h
  rw [execRow, State.dueRequest_of_quiet hquiet, State.settle_of_quiet hquiet]

theorem fallReset_chan (s : State) (c : ChanId) :
    s.fallReset.chan c = { s.chan c with sp := { (s.chan c).sp with inTx := none } } :=
  mapped_chan { s with resetN := false, timeBase := 0, upTx := none, dnTx := none }
    (fun ch => { ch with sp := { ch.sp with inTx := none } }) c

/-- Settles O50: low RESET_N by the form of each row, then the fall, the release and the end of the table clear. -/
theorem powerOnReset : Obligations.PowerOnReset := by
  refine ⟨fun c s hlow => ?_, fun s hhigh => ?_, fun s addr rate hlow => ?_, fun s addr rate hhigh => ?_, fun s hs => ⟨fun h => ?_, ?_⟩⟩
  · have hin := inReset_of_low hlow
    cases c with
    | resetNFall | resetNRelease | estopNFall | estopNRise | maintChange | fetchStart | managementAccessStart =>
      exact congrArg Host.Outcome.next (if_pos hin)
    | upFrameReceived | dnFrameReceived | framingError | malformedHeader | silenceExpiry | auxFreshnessExpiry | refreshExpiry
    | fetchComplete | managementAccessComplete | dnTransmitStart | dnTransmitComplete | upTransmitStart | upTransmitComplete
    | tableClearComplete | receiverArmed | upCrcError | timeBaseTick =>
      exact congrArg Host.Outcome.next (event_of_low hlow _)
    | _ => exact execRow_of_low hlow ..
  · have hout : ¬ s.inReset = true := by simp [State.inReset, hhigh]
    exact ⟨s.fallReset, congrArg Host.Outcome.next (if_neg hout), rfl, fallReset_chan s⟩
  · exact congrArg Host.Outcome.next (if_pos (inReset_of_low hlow))
  · have hout : ¬ s.inReset = true := by simp [State.inReset, hhigh]
    exact congrArg Host.Outcome.next (if_neg hout)
  · rw [exec_tableClearComplete hs, clearTables_of_not h]
  · intro hclearing hinit hslots
    have hfree (c : ChanId) : (s.chan c).sp.awaitingFinal = false := awaitingFinal_of_none (hslots c).1 (hslots c).2
    rw [exec_tableClearComplete hs, clearTables_of_clearing hclearing, endInit_eq, if_pos ⟨hinit, rfl, hfree⟩]
    rfl

end Sys2Proof.Proofs
end

section
/-! The end of a tick of the time base (Section 11.3): O51. -/

namespace Sys2Proof.Proofs

open Sys2Proof Sys2Proof.Machine

variable {s t u : State} {c d : ChanId}

/-! ## What an expiry leaves alone -/

/-- What the engine's attention rests on is as before, and no work has come up: the step fetch queue only shrinks and the port does not
come free. -/
structure Undisturbed (s t : State) : Prop where
  resetN : t.resetN = s.resetN
  timeBase : t.timeBase = s.timeBase
  clearing : t.clearing = s.clearing
  engine : t.engine = s.engine
  requests : t.requests = s.requests
  answers : t.answers = s.answers
  job : t.job = s.job
  resetPending : t.resetPending = s.resetPending
  fetchQueue : s.fetchQueue = [] → t.fetchQueue = []
  port : t.port = .free → s.port = .free

theorem Undisturbed.refl (s : State) : Undisturbed s s := ⟨rfl, rfl, rfl, rfl, rfl, rfl, rfl, rfl, id, id⟩

theorem Undisturbed.trans (h : Undisturbed s t) (k : Undisturbed t u) : Undisturbed s u :=
  ⟨k.resetN.trans h.resetN, k.timeBase.trans h.timeBase, k.clearing.trans h.clearing, k.engine.trans h.engine,
    k.requests.trans h.requests, k.answers.trans h.answers, k.job.trans h.job, k.resetPending.trans h.resetPending,
    k.fetchQueue ∘ h.fetchQueue, h.port ∘ k.port⟩

theorem undisturbed_after (s : State) (c : ChanId) (ch : Channel) (n : Nat) (l : List Body) : Undisturbed s (s.after c ch n l) := by
  rw [State.after_eq]
  exact ⟨rfl, rfl, rfl, rfl, rfl, rfl, rfl, rfl, id, id⟩

theorem abandon_eq_free {p : PortState} (h : p.abandon c = .free) : p = .free := by
  cases p with
  | free => rfl
  | access | fetch => cases h

theorem undisturbed_leaveFetch (s : State) (c : ChanId) : Undisturbed s (s.leaveFetch c) := by
  refine ⟨rfl, rfl, rfl, rfl, rfl, rfl, rfl, rfl, fun h => ?_, abandon_eq_free⟩
  rw [State.leaveFetch_fetchQueue, h]
  rfl

theorem dueRequest_of_undisturbed (h : Undisturbed s t) : t.dueRequest = s.dueRequest := by
  rw [State.dueRequest, h.resetN, h.engine, h.job, h.resetPending, h.answers, h.requests]
  rfl

theorem dueAccess_eq_none_iff (s : State) :
    s.dueAccess = none ↔ (s.resetN = true → s.port = .free → s.fetchQueue = [] ∧ s.job = none) := by
  unfold State.dueAccess
  cases s.resetN with
  | false => simp
  | true =>
    cases s.port with
    | free => cases s.fetchQueue <;> cases s.job <;> cases s.portLast <;> simp
    | access | fetch => exact iff_of_true rfl nofun

theorem attends_of_undisturbed (h : Undisturbed s t) (hs : s.attends) : t.attends := by
  obtain ⟨hreset, hquiet⟩ := hs
  have hrequest := State.dueRequest_of_quiet hquiet
  have haccess := (dueAccess_eq_none_iff s).mp (State.dueAccess_of_quiet hquiet) hreset
  have hidle : t.dueAccess = none := (dueAccess_eq_none_iff t).mpr fun _ hp =>
    ⟨h.fetchQueue (haccess (h.port hp)).1, h.job.trans (haccess (h.port hp)).2⟩
  refine ⟨h.resetN.trans hreset, ?_⟩
  rw [State.quiet, dueRequest_of_undisturbed h, hrequest, hidle]
  rfl

/-! ## The three timers of a channel -/

/-- No timer of channel `c` expires on the present tick. -/
abbrev noneDue (s : State) (c : ChanId) : Prop :=
  (s.chan c).track.silence ≠ some s.timeBase ∧ (s.chan c).track.auxTimer ≠ some s.timeBase ∧
    (s.chan c).sp.refresh ≠ some s.timeBase

/-- A silence event changes its own channel, and leaves its tracking. -/
theorem silenceEvent_eq_after (s : State) (c : ChanId) :
    ∃ ch n l, (s.silenceEvent c = s.after c ch n l ∨ s.silenceEvent c = (s.after c ch n l).leaveFetch c) ∧
      ch.track = (s.chan c).track := by
  unfold State.silenceEvent
  cases (s.chan c).state with
  | off => exact ⟨_, _, _, .inl (State.after_nothing s c).symm, rfl⟩
  | running =>
    exact ⟨_, _, _, .inr (State.trip_eq_after ..), rfl⟩
  | held | complete => exact ⟨_, _, _, .inl (State.recordOnly_eq_after ..), rfl⟩
  | isolated => exact ⟨_, _, _, .inl (State.isolatedFault_eq_after ..), rfl⟩

theorem silenceEvent_spec (s : State) (c : ChanId) :
    Undisturbed s (s.silenceEvent c) ∧ (∀ d, d ≠ c → (s.silenceEvent c).chan d = s.chan d) ∧
      ((s.silenceEvent c).chan c).track = (s.chan c).track := by
  obtain ⟨ch, n, l, heq | heq, htrack⟩ := silenceEvent_eq_after s c <;> rw [heq]
  · refine ⟨undisturbed_after .., fun d hd => State.after_chan _ _ _ _ _ _ hd, ?_⟩
    rw [State.after_chan_self, htrack]
  · refine ⟨(undisturbed_after ..).trans (undisturbed_leaveFetch ..), fun d hd => ?_, ?_⟩
    · exact State.after_chan s c d ch n l hd
    · exact (congrArg Channel.track (State.after_chan_self s c ch n l)).trans htrack

theorem silenceExpire_spec (s : State) (c : ChanId) :
    Undisturbed s (s.silenceExpire c) ∧ (∀ d, d ≠ c → (s.silenceExpire c).chan d = s.chan d) ∧
      ((s.silenceExpire c).chan c).track.silence ≠ some s.timeBase := by
  by_cases hnow : (s.chan c).track.silence = some s.timeBase
  · rw [silenceExpire_of_now hnow]
    obtain ⟨hframe, hothers, htrack⟩ := silenceEvent_spec
      (s.after c (rescored s c (silenced (s.chan c).track) (s.chan c).sup.score (s.chan c).sup.level) 0 []) c
    refine ⟨(undisturbed_after ..).trans hframe, fun d hd => (hothers d hd).trans (State.after_chan _ _ _ _ _ _ hd), ?_⟩
    rw [htrack, State.after_chan_self]
    nofun
  · rw [show s.silenceExpire c = s from if_neg hnow]
    exact ⟨.refl s, fun _ _ => rfl, hnow⟩

theorem auxExpire_spec (s : State) (c : ChanId) :
    Undisturbed s (s.auxExpire c) ∧ (∀ d, d ≠ c → (s.auxExpire c).chan d = s.chan d) ∧
      ((s.auxExpire c).chan c).track.silence = (s.chan c).track.silence ∧
      ((s.auxExpire c).chan c).track.auxTimer ≠ some s.timeBase := by
  by_cases hnow : (s.chan c).track.auxTimer = some s.timeBase
  · have heq : s.auxExpire c =
        s.after c { s.chan c with track := { (s.chan c).track with auxFresh := false, auxTimer := none } } 0 [] :=
      (if_pos hnow).trans (State.modTrack_eq_after ..)
    rw [heq]
    refine ⟨undisturbed_after .., fun d hd => State.after_chan _ _ _ _ _ _ hd, ?_⟩
    rw [State.after_chan_self]
    exact ⟨rfl, nofun⟩
  · rw [show s.auxExpire c = s from if_neg hnow]
    exact ⟨.refl s, fun _ _ => rfl, rfl, hnow⟩

/-- A refresh timer that expires changes the slot of its channel only. -/
theorem refreshExpire_eq_after (hnow : (s.chan c).sp.refresh = some s.timeBase) :
    ∃ sp n, sp.refresh = none ∧ s.refreshExpire c = s.after c { s.chan c with sp := sp } n [] := by
  by_cases hfull : (s.chan c).sp.lastTx = none ∨ (s.chan c).sp.isEmpty = false ∨ (s.cfg c).shadow = true
  · exact ⟨_, 0, rfl, (refreshExpire_of_full hnow hfull).trans (State.modSp_eq_after ..)⟩
  · simp only [not_or, Bool.not_eq_false, Bool.not_eq_true] at hfull
    obtain ⟨hlast, hempty, hshadow⟩ := hfull
    obtain ⟨f, hlast⟩ := Option.ne_none_iff_exists'.mp hlast
    exact ⟨_, 1, rfl, refreshExpire_of_empty hnow hlast hempty hshadow⟩

theorem refreshExpire_spec (s : State) (c : ChanId) :
    Undisturbed s (s.refreshExpire c) ∧ (∀ d, d ≠ c → (s.refreshExpire c).chan d = s.chan d) ∧
      ((s.refreshExpire c).chan c).track = (s.chan c).track ∧
      ((s.refreshExpire c).chan c).sp.refresh ≠ some s.timeBase := by
  by_cases hnow : (s.chan c).sp.refresh = some s.timeBase
  · obtain ⟨sp, n, hnone, heq⟩ := refreshExpire_eq_after hnow
    rw [heq]
    refine ⟨undisturbed_after .., fun d hd => State.after_chan _ _ _ _ _ _ hd, ?_⟩
    rw [State.after_chan_self]
    exact ⟨rfl, by rw [hnone]; nofun⟩
  · rw [refreshExpire_of_ne hnow]
    exact ⟨.refl s, fun _ _ => rfl, rfl, hnow⟩

/-! ## The expiries of a tick -/

theorem undisturbed_expireDue (s : State) (c : ChanId) : Undisturbed s (s.expireDue c) :=
  ((silenceExpire_spec s c).1.trans (auxExpire_spec _ c).1).trans (refreshExpire_spec _ c).1

theorem expireDue_chan_of_ne (s : State) (h : d ≠ c) : (s.expireDue c).chan d = s.chan d :=
  ((refreshExpire_spec _ c).2.1 d h).trans (((auxExpire_spec _ c).2.1 d h).trans ((silenceExpire_spec s c).2.1 d h))

theorem noneDue_expireDue (s : State) (c : ChanId) : noneDue (s.expireDue c) c := by
  obtain ⟨hbefore, -, hsilence⟩ := silenceExpire_spec s c
  obtain ⟨hframe, -, hsame, haux⟩ := auxExpire_spec (s.silenceExpire c) c
  obtain ⟨hafter, -, htrack, hrefresh⟩ := refreshExpire_spec ((s.silenceExpire c).auxExpire c) c
  have hnow : (s.expireDue c).timeBase = s.timeBase := (undisturbed_expireDue s c).timeBase
  rw [hframe.timeBase, hbefore.timeBase] at hrefresh
  rw [hbefore.timeBase] at haux
  rw [noneDue, hnow]
  refine ⟨?_, ?_, hrefresh⟩
  · rw [State.expireDue, htrack, hsame]
    exact hsilence
  · rw [State.expireDue, htrack]
    exact haux

theorem noneDue_expireDue_of_noneDue (c : ChanId) (h : noneDue s d) : noneDue (s.expireDue c) d := by
  by_cases hd : d = c
  · exact hd ▸ noneDue_expireDue s c
  · rw [noneDue, expireDue_chan_of_ne s hd, (undisturbed_expireDue s c).timeBase]
    exact h

theorem expireDue_of_noneDue (h : noneDue s c) : s.expireDue c = s := by
  obtain ⟨hsilence, haux, hrefresh⟩ := h
  have h₁ : s.silenceExpire c = s := if_neg hsilence
  have h₂ : s.auxExpire c = s := if_neg haux
  rw [State.expireDue, h₁, h₂, refreshExpire_of_ne hrefresh]

theorem undisturbed_foldl (l : List ChanId) (s : State) : Undisturbed s (l.foldl State.expireDue s) := by
  induction l generalizing s with
  | nil => exact .refl s
  | cons c l ih => exact (undisturbed_expireDue s c).trans (ih _)

theorem noneDue_foldl (l : List ChanId) (s : State) (h : d ∈ l ∨ noneDue s d) : noneDue (l.foldl State.expireDue s) d := by
  induction l generalizing s with
  | nil => exact h.resolve_left List.not_mem_nil
  | cons c l ih =>
    refine ih _ ?_
    obtain hmem | hnone := h
    · obtain rfl | hmem := List.mem_cons.mp hmem
      · exact .inr (noneDue_expireDue s d)
      · exact .inl hmem
    · exact .inr (noneDue_expireDue_of_noneDue c hnone)

theorem foldl_expireDue_of_noneDue (h : ∀ c, noneDue s c) (l : List ChanId) : l.foldl State.expireDue s = s := by
  induction l with
  | nil => rfl
  | cons c l ih => rw [List.foldl_cons, expireDue_of_noneDue (h c), ih]

theorem undisturbed_expiries (s : State) : Undisturbed s (s.forChannels State.expireDue) := undisturbed_foldl allChannels s

theorem noneDue_expiries (s : State) (c : ChanId) : noneDue (s.forChannels State.expireDue) c := by
  rw [State.forChannels]
  exact noneDue_foldl allChannels s (.inl (List.mem_finRange c))

/-! ## Expiries given as commands -/

theorem givenAll_cons {i : Instr} {l : List Instr} (h : exec i s = .next t) : givenAll (i :: l) s = givenAll l t := by
  rw [givenAll, h]

theorem givenAll_expiries (hs : s.attends) (c : ChanId) (l : List Instr) :
    givenAll (.silenceExpiry c :: .auxFreshnessExpiry c :: .refreshExpiry c :: l) s = givenAll l (s.expireDue c) := by
  have hsilence : (s.silenceExpire c).attends := attends_of_undisturbed (silenceExpire_spec s c).1 hs
  have haux : ((s.silenceExpire c).auxExpire c).attends := attends_of_undisturbed (auxExpire_spec _ c).1 hsilence
  have h₁ : exec (.silenceExpiry c) s = .next (s.silenceExpire c) :=
    congrArg Host.Outcome.next (State.event_of_attends hs fun s => s.silenceExpire c)
  have h₂ : exec (.auxFreshnessExpiry c) (s.silenceExpire c) = .next ((s.silenceExpire c).auxExpire c) :=
    congrArg Host.Outcome.next (State.event_of_attends hsilence fun s => s.auxExpire c)
  have h₃ : exec (.refreshExpiry c) ((s.silenceExpire c).auxExpire c) = .next (s.expireDue c) :=
    congrArg Host.Outcome.next (State.event_of_attends haux fun s => s.refreshExpire c)
  rw [givenAll_cons h₁, givenAll_cons h₂, givenAll_cons h₃]

theorem givenAll_allExpiries (hs : s.attends) (l : List ChanId) :
    givenAll (l.flatMap fun c => [.silenceExpiry c, .auxFreshnessExpiry c, .refreshExpiry c]) s =
      .next (l.foldl State.expireDue s) := by
  induction l generalizing s with
  | nil => rfl
  | cons c l ih =>
    rw [List.flatMap_cons, List.foldl_cons, ← ih (attends_of_undisturbed (undisturbed_expireDue s c) hs)]
    exact givenAll_expiries hs c _

/-! ## The tick -/

theorem exec_timeBaseTick (hs : s.attends) : exec .timeBaseTick s = .next s.tick :=
  congrArg Host.Outcome.next (State.event_of_attends hs State.tick)

theorem clearDue_of_not (h : s.clearing = true → s.timeBase ≠ 10) : s.clearDue = s := by
  by_cases hnow : s.timeBase = 10
  · have hclear : s.clearing = false := Bool.eq_false_of_not_eq_true fun hc => h hc hnow
    exact (if_pos hnow).trans (clearTables_of_not hclear)
  · exact if_neg hnow

/-- The end of the table clear, with the engine state that it leaves. -/
theorem clearTables_eq (h : s.clearing = true) :
    ∃ e, s.clearTables = { s with
      clearing := false, engine := e, acceptTable := [], stepTable := [], programTable := [], segmentTable := []
      profileTable := [], limitTable := [], configTable := [] } := by
  rw [clearTables_of_clearing h, endInit_eq]
  exact ⟨_, rfl⟩

theorem clearDue_timeBase (s : State) : s.clearDue.timeBase = s.timeBase := by
  by_cases h : s.clearing = true ∧ s.timeBase = 10
  · obtain ⟨hclear, hnow⟩ := h
    obtain ⟨e, he⟩ := clearTables_eq hclear
    have heq : s.clearDue = s.clearTables := if_pos hnow
    rw [heq, he]
  · rw [clearDue_of_not fun hc hnow => h ⟨hc, hnow⟩]

theorem tick_of_not (h : s.clearing = true → s.timeBase ≠ 10) :
    s.tick = { s.forChannels State.expireDue with timeBase := s.timeBase + 1 } := by
  rw [State.tick, clearDue_of_not h]

/-- A tick takes all expiries and then counts. -/
theorem tick_eq (s : State) :
    ∃ u, s.tick = { u with timeBase := s.timeBase + 1 } ∧ Undisturbed s.clearDue u ∧ ∀ c, noneDue u c :=
  ⟨_, rfl, undisturbed_expiries _, noneDue_expiries _⟩

/-- Settles O51: a tick is the expiries of all channels in turn, after the table clear where it falls on the tick. -/
theorem timeBaseTicks : Obligations.TimeBaseTicks := by
  intro s hs
  rw [exec_timeBaseTick hs]
  obtain ⟨u, htick, hframe, hnone⟩ := tick_eq s
  refine ⟨⟨s.tick, rfl, by rw [htick], fun c => ?_⟩, fun hidle hclear => ?_, fun hlast => ⟨s.tick, rfl, ?_⟩, fun hclear => ⟨_, givenAll_allExpiries hs _, ?_⟩,
    fun hclearing hnow hinit hempty => ?_⟩
  · have hbase : u.timeBase = s.timeBase := hframe.timeBase.trans (clearDue_timeBase s)
    rw [htick]
    exact hbase ▸ hnone c
  · have hall : s.forChannels State.expireDue = s := foldl_expireDue_of_noneDue hidle _
    rw [tick_of_not hclear, hall]
  · rw [htick]
    show s.timeBase + 1 = 0
    rw [hlast]
    rfl
  · rw [tick_of_not hclear]
    rfl
  · obtain ⟨e, he⟩ := clearTables_eq hclearing
    have hattends : s.clearTables.attends := by
      have haccess := (dueAccess_eq_none_iff s).mp (State.dueAccess_of_quiet hs.2)
      have hrequest : s.clearTables.dueRequest = none := by
        rw [he, State.dueRequest]
        simp only [hempty, List.head?_nil, ite_self]
      have hidle : s.clearTables.dueAccess = none := (dueAccess_eq_none_iff _).mpr (by rw [he]; exact haccess)
      refine ⟨by rw [he]; exact hs.1, ?_⟩
      rw [State.quiet, hrequest, hidle]
      rfl
    have hover : s.clearTables.clearing = false := by rw [he]
    have hbase : s.clearTables.timeBase = s.timeBase := by rw [he]
    have hdue : s.clearDue = s.clearTables := if_pos hnow
    have hsame : s.clearTables.tick = s.tick := by
      rw [tick_of_not (by rw [hover]; nofun), State.tick, hdue, hbase]
    refine ⟨s.clearTables, s.tick, exec_tableClearComplete hs, rfl, ?_, hattends, hover, ?_⟩
    · exact (exec_timeBaseTick hattends).trans (congrArg _ hsame)
    · rw [htick]
      rw [hdue] at hframe
      exact hframe.clearing.trans hover

end Sys2Proof.Proofs
end

section
/-! The lines and the emergency stop (Sections 11.5 and 11.6): O52. -/

namespace Sys2Proof.Proofs

open Sys2Proof Sys2Proof.Machine

variable {s t : State} {c : ChanId}

/-! ## Records of several channels -/

/-- Records of the channels of `l`, channel by channel. -/
def producedFor (l : List ChanId) (bodies : ChanId → List Body) (s : State) : State :=
  l.foldl (fun u c => u.produceAll c (bodies c)) s

/-- What the report queue makes of a record rests on is the same in both states. -/
def SameReports (s t : State) : Prop := t.reports = s.reports ∧ t.dropCount = s.dropCount ∧ t.timeBase = s.timeBase

theorem sameReports_produceAll (h : SameReports s t) (c : ChanId) (l : List Body) :
    SameReports (s.produceAll c l) (t.produceAll c l) := by
  induction l generalizing s t with
  | nil => exact h
  | cons b l ih =>
    refine ih (s := s.produce c b) (t := t.produce c b) ?_
    obtain ⟨hreports, hdrop, hbase⟩ := h
    simp only [SameReports, State.produce, hreports, hdrop, hbase, and_self]

theorem sameReports_producedFor (h : SameReports s t) (l : List ChanId) (bodies : ChanId → List Body) :
    SameReports (producedFor l bodies s) (producedFor l bodies t) := by
  induction l generalizing s t with
  | nil => exact h
  | cons c l ih => exact ih (sameReports_produceAll h c _)

/-! ## Fetches of several channels -/

/-- The port when the fetch of a channel outside `keep` is to be discarded (R64). -/
def discardUnless (keep : ChanId → Bool) (p : PortState) : PortState :=
  match p with
  | .fetch c o live => .fetch c o (live && keep c)
  | .free => .free
  | .access => .access

theorem discardUnless_discardUnless (keep keep' : ChanId → Bool) (p : PortState) :
    discardUnless keep (discardUnless keep' p) = discardUnless (fun c => keep c && keep' c) p := by
  cases p with
  | fetch => simp only [discardUnless, Bool.and_assoc, Bool.and_comm (keep' _)]
  | free | access => rfl

theorem discardUnless_true (p : PortState) : discardUnless (fun _ => true) p = p := by
  cases p with
  | fetch => simp only [discardUnless, Bool.and_true]
  | free | access => rfl

theorem abandon_eq_discardUnless (p : PortState) (c : ChanId) : p.abandon c = discardUnless (fun d => d != c) p := by
  cases p <;> rfl

/-! ## One channel at an emergency stop -/

abbrev estopEntry : FaultEntry := FaultEntry.bare .estop

/-- The channels that an emergency stop trips (R114, R186). -/
def estopTrips (s : State) (c : ChanId) : Bool := decide ((s.chan c).state ≠ .off ∧ (s.chan c).state ≠ .isolated)

/-- The channels that an emergency stop offers an OPEN. -/
def estopOpens (s : State) (c : ChanId) : Bool := estopTrips s c && !(s.cfg c).shadow

/-- Channel `c` after an emergency stop, its OPEN having met the slot with the pending-since order `n`. -/
def estopped (s : State) (c : ChanId) (n : Nat) : Channel :=
  if estopTrips s c then s.tripped c estopEntry n
  else if (s.chan c).state = .isolated then
    { s.chan c with sup := { (s.chan c).sup with recovery := 0, hardMark := true, fault := s.entered c estopEntry } }
  else s.chan c

/-- The records that an emergency stop produces for channel `c`. -/
def estopBodies (s : State) (c : ChanId) : List Body :=
  if estopTrips s c then
    s.faultBodyOf c estopEntry .trip :: s.stateBody c (s.chan c).state (s.tripState c) (s.chan c).sup.level .estop
  else if (s.chan c).state = .isolated then [s.faultBodyOf c estopEntry .recordOnly]
  else []

theorem estopTrips_iff (s : State) (c : ChanId) :
    estopTrips s c = true ↔ (s.chan c).state ≠ .off ∧ (s.chan c).state ≠ .isolated := decide_eq_true_iff

theorem estopChannel_of_trips (h : estopTrips s c = true) :
    s.estopChannel c = (s.after c (estopped s c s.nextSince) 1 (estopBodies s c)).leaveFetch c := by
  have htrip : s.estopChannel c = s.trip c estopEntry .estop := by
    obtain ⟨hoff, hiso⟩ := (estopTrips_iff s c).mp h
    unfold State.estopChannel
    cases hst : (s.chan c).state with
    | off => exact absurd hst hoff
    | isolated => exact absurd hst hiso
    | running | held | complete => rfl
  rw [htrip, State.trip_eq_after, estopped, estopBodies, if_pos h, if_pos h]

theorem estopChannel_of_not (h : ¬ estopTrips s c = true) :
    s.estopChannel c = s.after c (estopped s c s.nextSince) 0 (estopBodies s c) := by
  rw [estopped, estopBodies, if_neg h, if_neg h]
  by_cases hiso : (s.chan c).state = .isolated
  · have hentry : s.estopChannel c = (s.isolatedFault c estopEntry).faultRecord c estopEntry .recordOnly := by
      rw [State.estopChannel, hiso]
    rw [if_pos hiso, if_pos hiso, hentry, State.isolatedFault_eq_after, State.faultRecord_eq_after, State.after_after,
      State.after_chan_self]
    exact congrArg (s.after c _ 0) (congrArg (fun b => [b]) (State.after_faultBodyOf ..))
  · have hoff : (s.chan c).state = .off := by
      by_contra hoff
      exact h ((estopTrips_iff s c).mpr ⟨hoff, hiso⟩)
    rw [if_neg hiso, if_neg hiso, State.after_nothing, State.estopChannel, hoff]

/-- What an emergency stop of channel `c` changes (R186). -/
theorem estopChannel_eq (s : State) (c : ChanId) :
    s.estopChannel c = { s with
      channels := s.channels.set c.val (estopped s c s.nextSince)
      reports := (s.produceAll c (estopBodies s c)).reports
      dropCount := (s.produceAll c (estopBodies s c)).dropCount
      nextSince := s.nextSince + if estopOpens s c then 1 else 0
      port := discardUnless (fun d => !(decide (d = c) && estopTrips s c)) s.port
      fetchQueue := s.fetchQueue.filter (fun d => !(decide (d = c) && estopTrips s c)) } := by
  by_cases h : estopTrips s c = true
  · have hnext : (if (s.cfg c).shadow then s.nextSince else s.nextSince + 1) =
        s.nextSince + if estopOpens s c then 1 else 0 := by
      rw [estopOpens, h]
      cases (s.cfg c).shadow <;> rfl
    rw [estopChannel_of_trips h, State.after_eq, hnext, State.leaveFetch, abandon_eq_discardUnless, h]
    have hkeep : (fun d => !(decide (d = c) && true)) = fun d => d != c := by
      funext d
      rw [Bool.and_true]
      rfl
    rw [hkeep]
  · have hnext : (if (s.cfg c).shadow then s.nextSince else s.nextSince + 0) =
        s.nextSince + if estopOpens s c then 1 else 0 := by
      rw [estopOpens, Bool.eq_false_of_not_eq_true h]
      cases (s.cfg c).shadow <;> rfl
    rw [estopChannel_of_not h, State.after_eq, hnext, Bool.eq_false_of_not_eq_true h]
    simp only [Bool.and_false, Bool.not_false, List.filter_true, discardUnless_true]

/-! ## The emergency stop of several channels -/

/-- The channels of `l` stand in `s` as they stood in `s₀`. -/
structure Untouched (s₀ s : State) (l : List ChanId) : Prop where
  chan : ∀ x ∈ l, s.chan x = s₀.chan x
  configTable : s.configTable = s₀.configTable
  timeBase : s.timeBase = s₀.timeBase

/-- What an emergency stop makes of a channel rests on the channel, its configuration and the time base. -/
theorem estop_congr {s₀ s : State} {c : ChanId} (hchan : s.chan c = s₀.chan c) (hconfig : s.configTable = s₀.configTable)
    (hbase : s.timeBase = s₀.timeBase) :
    estopTrips s c = estopTrips s₀ c ∧ estopOpens s c = estopOpens s₀ c ∧ estopBodies s c = estopBodies s₀ c ∧
      ∀ n, estopped s c n = estopped s₀ c n := by
  have hcfg : s.cfg c = s₀.cfg c := by rw [State.cfg, hconfig]; rfl
  have htrips : estopTrips s c = estopTrips s₀ c := by rw [estopTrips, hchan]; rfl
  have hstate : s.tripState c = s₀.tripState c := by rw [State.tripState, hcfg]; rfl
  have hentered : s.entered c estopEntry = s₀.entered c estopEntry := by rw [State.entered, hchan, hcfg, hbase]; rfl
  have hslot (n : Nat) : s.slot c .openPath 0 n = s₀.slot c .openPath 0 n := by rw [State.slot, hcfg, hchan]; rfl
  have hfault (a : FaultAction) : s.faultBodyOf c estopEntry a = s₀.faultBodyOf c estopEntry a := by
    rw [State.faultBodyOf, hchan]; rfl
  refine ⟨htrips, ?_, ?_, fun n => ?_⟩
  · rw [estopOpens, htrips, hcfg]
    rfl
  · rw [estopBodies, htrips, hchan, hfault, hfault, hstate, State.stateBody, hcfg]
    rfl
  · rw [estopped, htrips, hchan, hentered, State.tripped, hchan, hstate, hslot, hentered]
    rfl

/-- The channels that no emergency stop of `c` and then of the channels of `l` has tripped. -/
theorem keep_cons (trips : ChanId → Bool) (c : ChanId) (l : List ChanId) (d : ChanId) :
    (!(decide (d ∈ l) && trips d) && !(decide (d = c) && trips c)) = !(decide (d ∈ c :: l) && trips d) := by
  by_cases hd : d = c
  · subst hd
    cases trips d <;> simp
  · simp [hd]

/-- The emergency stop of some channels in increasing number: the OPENs take their places by their turn (R186). -/
theorem foldl_estopChannel {l : List ChanId} (hl : l.Pairwise (· < ·)) {s₀ s : State} (h : Untouched s₀ s l) :
    l.foldl State.estopChannel s = { s with
      channels := (l.foldl State.estopChannel s).channels
      reports := (producedFor l (estopBodies s₀) s).reports
      dropCount := (producedFor l (estopBodies s₀) s).dropCount
      nextSince := s.nextSince + (l.filter (estopOpens s₀)).length
      port := discardUnless (fun d => !(decide (d ∈ l) && estopTrips s₀ d)) s.port
      fetchQueue := s.fetchQueue.filter (fun d => !(decide (d ∈ l) && estopTrips s₀ d)) } ∧
    ∀ x, (l.foldl State.estopChannel s).chan x =
      if x ∈ l then estopped s₀ x (s.nextSince + ((l.filter (estopOpens s₀)).filter (fun d => decide (d < x))).length)
      else s.chan x := by
  induction l generalizing s with
  | nil =>
    refine ⟨?_, fun x => (if_neg List.not_mem_nil).symm⟩
    simp only [List.not_mem_nil, decide_false, Bool.false_and, Bool.not_false, discardUnless_true, List.filter_true]
    rfl
  | cons c l ih =>
    obtain ⟨hhead, hl⟩ := List.pairwise_cons.mp hl
    have hnot : c ∉ l := fun hc => lt_irrefl c (hhead c hc)
    obtain ⟨hchan, hconfig, hbase⟩ := h
    obtain ⟨htrips, hopens, hbodies, hstopped⟩ := estop_congr (hchan c List.mem_cons_self) hconfig hbase
    have hstep := estopChannel_eq s c
    rw [htrips, hopens, hbodies, hstopped] at hstep
    have hstepChan (x : ChanId) : (s.estopChannel c).chan x = if x = c then estopped s₀ c s.nextSince else s.chan x := by
      rw [hstep]
      exact State.setChan_chan s c x _
    have hrest : Untouched s₀ (s.estopChannel c) l := by
      refine ⟨fun x hx => ?_, by rw [hstep]; exact hconfig, by rw [hstep]; exact hbase⟩
      rw [hstepChan, if_neg (ne_of_mem_of_not_mem hx hnot)]
      exact hchan x (List.mem_cons_of_mem c hx)
    have hreports : SameReports (s.estopChannel c) (s.produceAll c (estopBodies s₀ c)) := by
      rw [hstep]
      exact ⟨rfl, rfl, by rw [State.produceAll_eq]⟩
    obtain ⟨hqueue, hdrop, -⟩ := sameReports_producedFor hreports l (estopBodies s₀)
    obtain ⟨hframe, hfold⟩ := ih hl hrest
    have hnext : (s.estopChannel c).nextSince = s.nextSince + if estopOpens s₀ c then 1 else 0 := by rw [hstep]
    have hcount : (if estopOpens s₀ c then 1 else 0) + (l.filter (estopOpens s₀)).length =
        ((c :: l).filter (estopOpens s₀)).length := by
      rw [List.filter_cons]
      split <;> simp [Nat.add_comm]
    refine ⟨?_, fun x => ?_⟩
    · rw [List.foldl_cons]
      generalize l.foldl State.estopChannel (s.estopChannel c) = u at hframe ⊢
      refine hframe.trans ?_
      rw [← hqueue, ← hdrop, hstep]
      simp only [discardUnless_discardUnless, List.filter_filter, keep_cons, Nat.add_assoc, hcount]
      rfl
    · rw [List.foldl_cons, hfold, hstepChan, hnext, Nat.add_assoc]
      by_cases hx : x = c
      · subst hx
        have hnone : ((x :: l).filter (estopOpens s₀)).filter (fun d => decide (d < x)) = [] := by
          rw [List.filter_eq_nil_iff]
          intro d hd
          obtain rfl | hd := List.mem_cons.mp (List.mem_of_mem_filter hd)
          · simp
          · simpa using (hhead d hd).le
        rw [if_neg hnot, if_pos rfl, if_pos List.mem_cons_self, hnone]
        rfl
      · rw [if_neg hx]
        by_cases hmem : x ∈ l
        · have hlt : decide (c < x) = true := decide_eq_true (hhead x hmem)
          have hbefore : (if estopOpens s₀ c then 1 else 0) +
              ((l.filter (estopOpens s₀)).filter fun d => decide (d < x)).length =
                (((c :: l).filter (estopOpens s₀)).filter fun d => decide (d < x)).length := by
            rw [List.filter_cons]
            split
            · rw [List.filter_cons, if_pos hlt, List.length_cons, Nat.add_comm]
            · exact Nat.zero_add _
          rw [if_pos hmem, if_pos (List.mem_cons_of_mem c hmem), hbefore]
        · rw [if_neg hmem, if_neg (by simp [hx, hmem])]

/-! ## The lines -/

theorem inReset_of_attends (hs : s.attends) : ¬ s.inReset = true := by simp [State.inReset, hs.1]

theorem exec_estopNFall (hs : s.attends) : exec .estopNFall s = .next (if s.estopN then s.fallEstop else s) := by
  have hexec : exec .estopNFall s = .next (if s.inReset then { s with estopN := false }
      else if s.settle.estopN then s.settle.fallEstop else s.settle) := rfl
  rw [hexec, if_neg (inReset_of_attends hs), State.settle_of_quiet hs.2]

theorem fallEstop_of_ready (h : s.engine = .ready) :
    s.fallEstop = State.forChannels { s with estopN := false, engine := .estop } State.estopChannel := by
  rw [State.fallEstop, h]

theorem fallEstop_of_not (h : s.engine ≠ .ready) : s.fallEstop = { s with estopN := false } := by
  unfold State.fallEstop
  cases he : s.engine with
  | ready => exact absurd he h
  | init | estop => rfl

theorem faultAsserted_iff (s : State) : s.faultAsserted = true ↔
    s.resetN = true ∧ s.engine ≠ .init ∧ (s.engine = .estop ∨ ∃ c : ChanId, (s.chan c).state = .isolated) := by
  have hany : s.anyIsolated = true ↔ ∃ c : ChanId, (s.chan c).state = .isolated := by
    simp [State.anyIsolated, allChannels]
  simp only [State.faultAsserted, Bool.and_eq_true, Bool.or_eq_true, bne_iff_ne, beq_iff_eq, hany, and_assoc]

/-- Settles O52: the lines by the engine state, the emergency stop by `foldl_estopChannel` over all channels. -/
theorem linesAndEmergencyStop : Obligations.LinesAndEmergencyStop := by
  refine ⟨fun s hs => ⟨fun level => ?_, ?_, fun hhigh hready => ?_, fun hlow => ?_⟩, faultAsserted_iff, ?_⟩
  · have hexec : exec (.maintChange level) s =
        .next (if s.inReset then { s with maint := level } else { s.settle with maint := level }) := rfl
    rw [hexec, if_neg (inReset_of_attends hs), State.settle_of_quiet hs.2]
  · have hexec : exec .estopNRise s =
        .next (if s.inReset then { s with estopN := true } else { s.settle with estopN := true }) := rfl
    rw [hexec, if_neg (inReset_of_attends hs), State.settle_of_quiet hs.2]
  · rw [exec_estopNFall hs, if_pos hhigh, fallEstop_of_not hready]
  · rw [exec_estopNFall hs, hlow]
    rfl
  rintro s trips opens bodies e hs hhigh hready rfl htrips hopens hbodies
  obtain rfl : trips = estopTrips s := funext fun c => Bool.eq_iff_iff.mpr ((htrips c).trans (estopTrips_iff s c).symm)
  obtain rfl : bodies = estopBodies s := funext hbodies
  have huntouched : Untouched s { s with estopN := false, engine := .estop } allChannels := ⟨fun _ _ => rfl, rfl, rfl⟩
  have hsorted : allChannels.Pairwise (· < ·) := List.pairwise_lt_finRange 32
  obtain ⟨hframe, hchan⟩ := foldl_estopChannel hsorted huntouched
  have hreports : SameReports s { s with estopN := false, engine := .estop } := ⟨rfl, rfl, rfl⟩
  obtain ⟨hqueue, hdrop, -⟩ := sameReports_producedFor hreports allChannels (estopBodies s)
  have hall (c : ChanId) : c ∈ allChannels := List.mem_finRange c
  have hkeep : (fun d => !(decide (d ∈ allChannels) && estopTrips s d)) = fun d => !estopTrips s d := by
    funext d
    rw [decide_eq_true (hall d), Bool.true_and]
  have hopens' : opens = allChannels.filter (estopOpens s) := hopens
  have hexec : exec .estopNFall s =
      .next (allChannels.foldl State.estopChannel { s with estopN := false, engine := .estop }) := by
    rw [exec_estopNFall hs, if_pos hhigh, fallEstop_of_ready hready]
    rfl
  rw [hkeep, hqueue, hdrop, ← hopens'] at hframe
  rw [← hopens'] at hchan
  refine ⟨_, producedFor allChannels (estopBodies s) s, hexec, rfl, ?_, ?_, fun c => ?_⟩
  · exact hframe
  · rw [faultAsserted_iff, hframe]
    exact ⟨hs.1, nofun, .inl rfl⟩
  · rw [hchan, if_pos (hall c), estopped]
    refine ⟨fun hoff => ?_, fun hiso => ?_, fun htrip => if_pos htrip⟩
    · have hnot : ¬ estopTrips s c = true := fun h => ((estopTrips_iff s c).mp h).1 hoff
      rw [if_neg hnot, if_neg (by rw [hoff]; decide)]
    · have hnot : ¬ estopTrips s c = true := fun h => ((estopTrips_iff s c).mp h).2 hiso
      rw [if_neg hnot, if_pos hiso]

end Sys2Proof.Proofs
end

section
/-! The engine commands and the engine reset (Sections 9.6 and 11.4): O53. -/

namespace Sys2Proof.Proofs

open Sys2Proof Sys2Proof.Machine

variable {s t u : State} {c : ChanId} {r : Request} {rest : List Request}

/-! ## The engine commands -/

theorem dueRequest_of_resetPending (h : s.resetPending = true) : s.dueRequest = none := by
  unfold State.dueRequest
  simp only [h, Bool.not_true, Bool.and_false, Bool.false_and, Bool.false_eq_true, if_false]

theorem exec_resetEngine (hs : s.executes r rest) (hlen : r.args.length = 1) (hrow : r.row = .resetEngine) :
    exec .resetEngine s = .next { s with
      requests := rest, resetPending := true
      answers := s.answers ++ [{ tag := r.tag, code := r.code, status := .ok, results := [], resets := true }] } := by
  have hexec : exec .resetEngine s = .next (reqResetEngine s r) := execRow_of_executes hs hrow
  obtain ⟨-, -, hidle, -, -, hhead⟩ := hs
  rw [hexec, reqResetEngine, if_pos hlen, State.answerReset, hhead, ← hidle]
  rfl

theorem exec_clearEstop (hs : s.executes r rest) (hlen : r.args.length = 1) (hrow : r.row = .clearEstop) :
    exec .clearEstop s =
      .next (if s.estopN then ({ s with engine := .ready }.answered r rest .ok []) else s.answered r rest .estop []) := by
  have hexec : exec .clearEstop s = .next (reqClearEstop s r) := execRow_of_executes hs hrow
  have hnot := hs
  obtain ⟨-, hinit, hidle, -, -, hhead⟩ := hs
  rw [hexec, reqClearEstop, if_pos hlen, State.refuse_eq_answered _ hnot]
  cases he : s.engine with
  | init => exact absurd he hinit
  | ready | estop =>
    exact congrArg (fun t => Host.Outcome.next (if s.estopN then t else _))
      (State.placeAnswer_eq_answered (s := { s with engine := .ready }) _ _ hhead hidle)

/-! ## The engine reset -/

/-- The channel is offered no final ZERO (R101, R185). -/
abbrev resetsAtOnce (s : State) (c : ChanId) : Prop := (s.chan c).state = .off ∨ (s.cfg c).shadow = true

theorem resetOf_of_resetsAtOnce (h : resetsAtOnce s c) (n : Nat) : resetOf s c n = Channel.reset := by
  have hnot : ¬ ((s.chan c).state ≠ .off ∧ (s.cfg c).shadow = false) := by
    rintro ⟨hon, hactive⟩
    obtain hoff | hshadow := h
    · exact hon hoff
    · exact absurd (hactive.symm.trans hshadow) (by decide)
  rw [resetOf, if_neg hnot]
  rfl

theorem resetOf_of_offered (hon : (s.chan c).state ≠ .off) (hactive : (s.cfg c).shadow = false) (n : Nat) :
    resetOf s c n = { Channel.reset with sp := (s.chan c).sp.offerFinal (s.cfg c).stage n } := by
  rw [resetOf, if_pos ⟨hon, hactive⟩]

theorem offerFinal_eq (sp : Setpoint) (stage n : Nat) :
    sp.offerFinal stage n = { sp with
      pending := some { stage := stage, command := .zero, current := 0, rep := false, final := true }
      since := if sp.pending = none then some n else sp.since
      refresh := none, superseded := 0, repeats := 0 } := by
  unfold Setpoint.offerFinal
  cases sp.pending <;> rfl

theorem resetOf_awaitingFinal_iff (s : State) (c : ChanId) (n : Nat) :
    (resetOf s c n).sp.awaitingFinal = false ↔ resetsAtOnce s c := by
  by_cases h : resetsAtOnce s c
  · rw [resetOf_of_resetsAtOnce h]
    exact iff_of_true rfl h
  · obtain ⟨hon, hshadow⟩ := not_or.mp h
    rw [resetOf_of_offered hon (Bool.eq_false_of_not_eq_true hshadow)]
    exact iff_of_false (by simp [Setpoint.awaitingFinal, Setpoint.offerFinal]) h

/-- The engine at an engine reset, with the transmission of the answer over (R185). -/
theorem engineReset_spec (s : State) :
    s.engineReset = { s with
      channels := s.engineReset.channels, nextSince := s.engineReset.nextSince, fetchQueue := [], portLast := .management
      port := s.port.atReset
      reports := [], dropCount := 0, relayDown := [], relayUp := [], requests := []
      answers := [], job := none, resetPending := false, link := LinkCounters.reset, relayWait := 0, upServed := .relay
      timeBase := 0
      engine := if s.clearing = false ∧ ∀ c : ChanId, resetsAtOnce s c then s.initTarget else .init } ∧
    ∀ c, ∃ n, s.engineReset.chan c = resetOf s c n := by
  obtain ⟨hframe, hchan⟩ := forChannels_resetChannel s
  rw [engineReset_eq, endInit_eq]
  generalize s.forChannels State.resetChannel = u at hframe hchan ⊢
  have hclearing : u.clearing = s.clearing := by rw [hframe]
  have htarget : u.initTarget = s.initTarget := by rw [State.initTarget, hframe]; rfl
  have hfinal : ((emptiedQueues u s.port).engine = .init ∧ (emptiedQueues u s.port).clearing = false ∧
      ∀ c : ChanId, ((emptiedQueues u s.port).chan c).sp.awaitingFinal = false) ↔
      s.clearing = false ∧ ∀ c : ChanId, resetsAtOnce s c := by
    refine (and_iff_right rfl).trans (and_congr (by rw [← hclearing]; rfl) (forall_congr' fun c => ?_))
    rw [emptiedQueues_chan, hchan, resetOf_awaitingFinal_iff]
  refine ⟨?_, fun c => ⟨_, hchan c⟩⟩
  simp only [hfinal]
  rw [hframe]
  rfl

theorem exec_upTransmitComplete (hs : s.attends) : exec .upTransmitComplete s = .next s.completeUp :=
  congrArg Host.Outcome.next (State.event_of_attends hs State.completeUp)

theorem completeUp_of_resets {f : Frame} (h : s.upTx = some { frame := f, resets := true }) :
    s.completeUp = State.engineReset { s with upTx := none } := by
  rw [State.completeUp, h]
  rfl

/-- Settles O53: the two commands, then the reset by `engineReset_spec`. -/
theorem engineCommandsAndReset : Obligations.EngineCommandsAndReset := by
  refine ⟨fun s r rest hs hlen => ⟨?_, fun hrow => ⟨fun hlow => ?_, fun hhigh => ?_⟩⟩, fun s f hs htx => ?_⟩
  · rintro hrow t rfl
    exact ⟨exec_resetEngine hs hlen hrow, dueRequest_of_resetPending rfl⟩
  · rw [exec_clearEstop hs hlen hrow, hlow]
    rfl
  · rw [exec_clearEstop hs hlen hrow, if_pos hhigh]
  · obtain ⟨hframe, hchan⟩ := engineReset_spec { s with upTx := none }
    have hexec : exec .upTransmitComplete s = .next (State.engineReset { s with upTx := none }) := by
      rw [exec_upTransmitComplete hs, completeUp_of_resets htx]
    generalize State.engineReset { s with upTx := none } = t at hframe hchan hexec
    refine ⟨t, hexec, hframe, fun c => ?_, fun c => ?_⟩
    · rw [hframe]
      exact atReset_fetchesFor s.port c
    · obtain ⟨n, hn⟩ := hchan c
      rw [hn]
      refine ⟨fun h => resetOf_of_resetsAtOnce h n, fun hon hactive => ⟨n, ?_⟩⟩
      refine (resetOf_of_offered (s := { s with upTx := none }) hon hactive n).trans ?_
      rw [offerFinal_eq]
      rfl

end Sys2Proof.Proofs
end

section
/-! The bytes of the frames that the engine sends, their CRC, and a SAMPLE payload as read (Sections 8.2, 8.8 and 10.1): O45. -/

namespace Sys2Proof.Proofs

open Sys2Proof Sys2Proof.Machine

/-! ## Fields of a payload as words -/

theorem u8At_drop (l : List Byte) (i j : Nat) : u8At (l.drop i) j = u8At l (i + j) := by
  rw [u8At, u8At, List.getD, List.getD, List.getElem?_drop]

theorem u16At_drop (l : List Byte) (i j : Nat) : u16At (l.drop i) j = u16At l (i + j) := by
  rw [u16At, u16At, u8At_drop, u8At_drop, Nat.add_assoc]

theorem u32At_drop (l : List Byte) (i j : Nat) : u32At (l.drop i) j = u32At l (i + j) := by
  rw [u32At, u32At, u16At_drop, u16At_drop, Nat.add_assoc]

theorem toNat_append_byte {n : Nat} (x : BitVec n) (b : Byte) : (x ++ b).toNat = x.toNat * 256 + b.toNat := by
  rw [BitVec.toNat_append, ← Nat.shiftLeft_add_eq_or_of_lt b.isLt, Nat.shiftLeft_eq]

theorem u8At_eq {l rest : List Byte} {i : Nat} {a : Byte} (h : l.drop i = a :: rest) : u8At l i = a.toNat := by
  have hread := u8At_drop l i 0
  rw [h] at hread
  exact hread.symm

theorem u16At_eq {l rest : List Byte} {i : Nat} {a b : Byte} (h : l.drop i = a :: b :: rest) :
    u16At l i = (a ++ b).toNat := by
  have hread := u16At_drop l i 0
  rw [h] at hread
  exact hread.symm.trans (toNat_append_byte a b).symm

theorem u32At_eq {l rest : List Byte} {i : Nat} {a b x y : Byte} (h : l.drop i = a :: b :: x :: y :: rest) :
    u32At l i = (a ++ b ++ x ++ y).toNat := by
  have hread := u32At_drop l i 0
  have hword : u32At (a :: b :: x :: y :: rest) 0 =
      (a.toNat * 256 + b.toNat) * 65536 + (x.toNat * 256 + y.toNat) := rfl
  rw [h, hword] at hread
  rw [toNat_append_byte, toNat_append_byte, toNat_append_byte, ← Nat.add_zero i, ← hread]
  omega

theorem s16At_eq {l rest : List Byte} {i : Nat} {a b : Byte} (h : l.drop i = a :: b :: rest) :
    s16At l i = (a ++ b).toInt := by
  rw [s16At, u16At_eq h]
  exact congrArg BitVec.toInt (BitVec.ofNat_toNat ..)

theorem s32At_eq {l rest : List Byte} {i : Nat} {a b x y : Byte} (h : l.drop i = a :: b :: x :: y :: rest) :
    s32At l i = (a ++ b ++ x ++ y).toInt := by
  rw [s32At, u32At_eq h]
  exact congrArg BitVec.toInt (BitVec.ofNat_toNat ..)

/-- A SAMPLE payload as read (R152). -/
theorem readSample_eq (b0 b1 b2 b3 b4 b5 b6 b7 : Byte) : readSample [b0, b1, b2, b3, b4, b5, b6, b7] =
    { seq := b0, v := (b1 ++ b2).toNat, i := (b3 ++ b4).toInt
      t := if b5 ++ b6 = 0x8000#16 then none else some (b5 ++ b6).toInt
      overrange := b7.getLsbD 0 } := by
  have hv : u16At [b0, b1, b2, b3, b4, b5, b6, b7] 1 = (b1 ++ b2).toNat := u16At_eq rfl
  have hi : s16At [b0, b1, b2, b3, b4, b5, b6, b7] 3 = (b3 ++ b4).toInt := s16At_eq rfl
  have ht : u16At [b0, b1, b2, b3, b4, b5, b6, b7] 5 = (b5 ++ b6).toNat := u16At_eq rfl
  have hts : s16At [b0, b1, b2, b3, b4, b5, b6, b7] 5 = (b5 ++ b6).toInt := s16At_eq rfl
  have habsent : (b5 ++ b6).toNat = 0x8000 ↔ b5 ++ b6 = 0x8000#16 := by
    rw [← BitVec.toNat_inj]
    rfl
  have hflag : (u8At [b0, b1, b2, b3, b4, b5, b6, b7] 7 % 2 == 1) = b7.getLsbD 0 := by
    rw [BitVec.getLsbD, Nat.testBit_zero]
    rfl
  rw [readSample, hv, hi, ht, hts, hflag]
  simp only [habsent]
  rfl

/-! ## The CRC -/

/-- The CRC takes one byte more (R142). -/
theorem crc16_append (l : List Byte) (b : Byte) : crc16 (l ++ [b]) =
    [7, 6, 5, 4, 3, 2, 1, 0].foldl
      (fun (x : BitVec 16) i => if x.msb = b.getLsbD i then x <<< 1 else x <<< 1 ^^^ 0x1021#16) (crc16 l) := by
  have hbit : (fun (x : BitVec 16) (i : Nat) => if x.msb = b.getLsbD i then x <<< 1 else x <<< 1 ^^^ 0x1021#16) =
      fun x i => crcBit x (b.getLsbD i) := by
    funext x i
    rw [crcBit]
    by_cases h : x.msb = b.getLsbD i
    · simp [h]
    · simp [h]
  rw [hbit, crc16, List.flatMap_append, List.foldl_append]
  rfl

theorem crc16_check : crc16 [0x31, 0x32, 0x33, 0x34, 0x35, 0x36, 0x37, 0x38, 0x39] = 0x29B1 := by decide +kernel

/-! ## Frames -/

theorem sealedFrame_buildFrame (kind : Nat) (addr : Byte) (payload : List Byte) : sealedFrame (buildFrame kind addr payload) := by
  simp only [sealedFrame, buildFrame, frameCrc]

theorem setpointFrame_payload (f : SpFrame) (n : Byte) :
    (setpointFrame f n).payload =
      [n] ++ (natBytes 1 (f.command.code + (if f.rep then 128 else 0)) ++
        (intBytes 2 (if f.command = .run then f.current else 0) ++ [])) := by
  rw [List.append_nil, ← List.append_assoc]
  unfold setpointFrame
  cases f.command <;> rfl

theorem answerFrame_payload (addr : Byte) (a : Answer) :
    (answerFrame addr a).payload = a.tag :: a.code :: BitVec.ofNat 8 a.status.code :: a.results := by
  simp [answerFrame, buildFrame, natBytes]

/-! ## The bodies of the four kinds of record -/

theorem endCause_code_lt (x : EndCause) : x.code < 256 := by cases x <;> decide
theorem cause_code_lt (x : Cause) : x.code < 256 := by cases x <;> decide
theorem faultAction_code_lt (x : FaultAction) : x.code < 256 := by cases x <;> decide
theorem chState_code_lt (x : ChState) : x.code < 256 := by cases x <;> decide
theorem level_code_lt (x : Level) : x.code < 256 := by cases x <;> decide
theorem reason_code_lt (x : Reason) : x.code < 256 := by cases x <;> decide

theorem bitsNat_lt (l : List Bool) : bitsNat l < 2 ^ l.length := by
  induction l with
  | nil => exact Nat.one_pos
  | cons b l ih =>
    have hb := Bool.toNat_le b
    rw [bitsNat, List.length_cons, Nat.pow_succ]
    omega

theorem bitsNat_five (a b c d e : Bool) :
    bitsNat [a, b, c, d, e] = a.toNat + 2 * b.toNat + 4 * c.toNat + 8 * d.toNat + 16 * e.toNat := by
  simp only [bitsNat]
  omega

theorem length_optS16 (t : Option Int) : (optS16 t).length = if t = none then 0 else 2 := by
  cases t with
  | none => rfl
  | some x => exact length_intBytes 2 x

theorem s16At_optS16 {t : Option Int} {z : Int} (ht : t = some z) (hz : fitsS16 (t.getD 0)) (l : List Byte) :
    s16At (optS16 t ++ l) 0 = z := by
  subst ht
  exact s16At_intBytes_two hz l

/-- An optional u16 field: two bytes when present, none when absent. -/
def optU16 : Option Nat → List Byte
  | none => []
  | some x => natBytes 2 x

theorem length_optU16 (x : Option Nat) : (optU16 x).length = if x = none then 0 else 2 := by
  cases x <;> rfl

theorem u16At_optU16 {x : Option Nat} {z : Nat} (hx : x = some z) (hz : fitsU16 (x.getD 0)) (l : List Byte) :
    u16At (optU16 x ++ l) 0 = z := by
  subst hx
  exact (u16At_natBytes_two z l).trans (Nat.mod_eq_of_lt (Nat.lt_succ_of_le hz))

/-- A STEP_END body (R173). -/
theorem stepEndBytes_fields {b : StepEndBody} {q : List Byte} (hq : q = bodyBytes (.stepEnd b)) (hsel : b.selector ≤ 255)
    (hindex : fitsU16 b.index) (htime : fitsU32 b.time) (hcharge : fitsS32 b.charge) (henergy : fitsS32 b.energy)
    (hv : fitsU16 b.v) (hi : fitsS16 b.i) (ht : fitsS16 (b.t.getD 0)) :
    u8At q 0 = b.selector ∧ u16At q 1 = b.index ∧ u8At q 3 = b.cause.code ∧
      u8At q 4 = b.clamped.toNat + 2 * b.qSat.toNat + 4 * b.eSat.toNat + 8 * b.tSat.toNat + 16 * b.t.isSome.toNat ∧
      u32At q 5 = b.time ∧ s32At q 9 = b.charge ∧ s32At q 13 = b.energy ∧ u16At q 17 = b.v ∧ s16At q 19 = b.i ∧
      (∀ z, b.t = some z → s16At q 21 = z) ∧ q.length = if b.t = none then 21 else 23 := by
  have hcause := endCause_code_lt b.cause
  have hbits : bitsNat [b.clamped, b.qSat, b.eSat, b.tSat, b.t.isSome] < 32 := bitsNat_lt _
  have hassoc : q = natBytes 1 b.selector ++ (natBytes 2 b.index ++ (natBytes 1 b.cause.code ++
      (natBytes 1 (bitsNat [b.clamped, b.qSat, b.eSat, b.tSat, b.t.isSome]) ++ (natBytes 4 b.time ++ (intBytes 4 b.charge ++
        (intBytes 4 b.energy ++ (natBytes 2 b.v ++ (intBytes 2 b.i ++ (optS16 b.t ++ []))))))))) := by
    simp only [hq, bodyBytes, List.append_assoc, List.append_nil]
  subst hassoc
  refine ⟨?_, ?_, ?_, ?_, ?_, ?_, ?_, ?_, ?_, fun z hz => ?_, ?_⟩
  case refine_11 =>
    simp only [List.length_append, length_natBytes, length_intBytes, length_optS16, List.length_nil]
    split <;> rfl
  all_goals
    simp only [u8At_skip, u16At_skip, u32At_skip, s16At_skip, s32At_skip, length_natBytes, length_intBytes, Nat.reduceLeDiff,
      Nat.reduceSub, u8At_natBytes_one, u16At_natBytes_two, u32At_natBytes_four, ← bitsNat_five]
  case refine_6 => exact s32At_intBytes_four hcharge _
  case refine_7 => exact s32At_intBytes_four henergy _
  case refine_9 => exact s16At_intBytes_two hi _
  case refine_10 => exact s16At_optS16 hz ht _
  all_goals omega

/-- A CYCLE_END body (R174). -/
theorem cycleEndBytes_fields {b : CycleEndBody} {q : List Byte} (hq : q = bodyBytes (.cycleEnd b)) (hcycle : fitsU32 b.cycle)
    (hqi : fitsU32 b.chargeIn) (hqo : fitsU32 b.chargeOut) (hei : fitsU32 b.energyIn) (heo : fitsU32 b.energyOut)
    (hdur : fitsU32 b.duration) (heff : fitsU16 (b.efficiency.getD 0)) :
    u8At q 0 = b.clamped.toNat + 2 * b.efficiency.isSome.toNat ∧ u32At q 1 = b.cycle ∧ u32At q 5 = b.chargeIn ∧
      u32At q 9 = b.chargeOut ∧ u32At q 13 = b.energyIn ∧ u32At q 17 = b.energyOut ∧ u32At q 21 = b.duration ∧
      (∀ z, b.efficiency = some z → u16At q 25 = z) ∧ q.length = if b.efficiency = none then 25 else 27 := by
  have hbits : bitsNat [b.clamped, b.efficiency.isSome] < 4 := bitsNat_lt _
  have hassoc : q = natBytes 1 (bitsNat [b.clamped, b.efficiency.isSome]) ++ (natBytes 4 b.cycle ++ (natBytes 4 b.chargeIn ++
      (natBytes 4 b.chargeOut ++ (natBytes 4 b.energyIn ++ (natBytes 4 b.energyOut ++ (natBytes 4 b.duration ++
        (optU16 b.efficiency ++ []))))))) := by
    cases heff : b.efficiency <;> simp only [hq, bodyBytes, heff, optU16, List.append_assoc, List.append_nil]
  subst hassoc
  refine ⟨?_, ?_, ?_, ?_, ?_, ?_, ?_, fun z hz => ?_, ?_⟩
  case refine_9 =>
    simp only [List.length_append, length_natBytes, length_optU16, List.length_nil]
    split <;> rfl
  all_goals
    simp only [u16At_skip, u32At_skip, length_natBytes, Nat.reduceLeDiff, Nat.reduceSub, u8At_natBytes_one,
      u32At_natBytes_four, ← bitsNat_pair]
  case refine_8 => exact u16At_optU16 hz heff _
  all_goals omega

/-- A FAULT body (R175). -/
theorem faultBytes_fields {b : FaultBody} {q : List Byte} (hq : q = bodyBytes (.fault b)) (hsel : b.selector ≤ 255)
    (hindex : fitsU16 b.index) (hv : fitsU16 b.v) (hi : fitsS16 b.i) (ht : fitsS16 (b.t.getD 0)) :
    u8At q 0 = b.cause.code ∧ u8At q 1 = b.action.code ∧ u8At q 2 = b.t.isSome.toNat ∧ u8At q 3 = b.selector ∧
      u16At q 4 = b.index ∧ u16At q 6 = b.v ∧ s16At q 8 = b.i ∧ (∀ z, b.t = some z → s16At q 10 = z) ∧
      q.length = if b.t = none then 10 else 12 := by
  have hcause := cause_code_lt b.cause
  have haction := faultAction_code_lt b.action
  have hassoc : q = natBytes 1 b.cause.code ++ (natBytes 1 b.action.code ++ (boolByte b.t.isSome ++ (natBytes 1 b.selector ++
      (natBytes 2 b.index ++ (natBytes 2 b.v ++ (intBytes 2 b.i ++ (optS16 b.t ++ []))))))) := by
    simp only [hq, bodyBytes, List.append_assoc, List.append_nil]
  subst hassoc
  refine ⟨?_, ?_, ?_, ?_, ?_, ?_, ?_, fun z hz => ?_, ?_⟩
  case refine_9 =>
    simp only [List.length_append, length_natBytes, length_intBytes, length_boolByte, length_optS16, List.length_nil]
    split <;> rfl
  all_goals
    simp only [u8At_skip, u16At_skip, s16At_skip, length_natBytes, length_intBytes, length_boolByte, Nat.reduceLeDiff,
      Nat.reduceSub, u8At_natBytes_one, u16At_natBytes_two, u8At_boolByte]
  case refine_7 => exact s16At_intBytes_two hi _
  case refine_8 => exact s16At_optS16 hz ht _
  all_goals omega

/-- A STATE body (R176). -/
theorem stateBytes_fields {b : StateBody} {q : List Byte} (hq : q = bodyBytes (.state b)) :
    u8At q 0 = b.old.code ∧ u8At q 1 = b.new.code ∧ u8At q 2 = b.level.code ∧ u8At q 3 = b.reason.code ∧ q.length = 4 := by
  have hold := chState_code_lt b.old
  have hnew := chState_code_lt b.new
  have hlevel := level_code_lt b.level
  have hreason := reason_code_lt b.reason
  have hassoc : q = natBytes 1 b.old.code ++ (natBytes 1 b.new.code ++ (natBytes 1 b.level.code ++
      (natBytes 1 b.reason.code ++ []))) := by
    simp only [hq, bodyBytes, List.append_assoc, List.append_nil]
  subst hassoc
  refine ⟨?_, ?_, ?_, ?_, rfl⟩
  all_goals
    simp only [u8At_skip, length_natBytes, Nat.reduceLeDiff, Nat.reduceSub, u8At_natBytes_one]
    omega

/-! ## The common part of a record -/

/-- The bytes of a record before its body (R172). -/
def recordHead (r : Record) : List Byte :=
  natBytes 1 (r.body.code + (if r.dropped = none then 0 else 128)) ++ (natBytes 1 r.channel.val ++
    (natBytes 4 r.tick.toNat ++ (optU16 r.dropped ++ [])))

theorem recordBytes_eq (r : Record) : recordBytes r = recordHead r ++ bodyBytes r.body := by
  unfold recordBytes recordHead
  cases r.dropped <;> simp [optU16]

theorem length_recordHead (r : Record) : (recordHead r).length = if r.dropped = none then 6 else 8 := by
  simp only [recordHead, List.length_append, length_natBytes, length_optU16, List.length_nil]
  split <;> rfl

theorem body_code_le (b : Body) : b.code ≤ 4 := by
  cases b <;> simp [Body.code]

theorem recordHead_fields (r : Record) (hd : fitsU16 (r.dropped.getD 0)) (l : List Byte) :
    u8At (recordHead r ++ l) 0 = r.body.code + (if r.dropped = none then 0 else 128) ∧
      u8At (recordHead r ++ l) 1 = r.channel.val ∧ u32At (recordHead r ++ l) 2 = r.tick.toNat ∧
      ∀ n, r.dropped = some n → u16At (recordHead r ++ l) 6 = n := by
  have hcode := body_code_le r.body
  have hkind : r.body.code + (if r.dropped = none then 0 else 128) < 256 := by split <;> omega
  have hchannel := r.channel.isLt
  have htick := r.tick.isLt
  simp only [recordHead, List.append_assoc]
  refine ⟨?_, ?_, ?_, fun n hn => ?_⟩
  all_goals
    simp only [u8At_skip, u16At_skip, u32At_skip, length_natBytes, Nat.reduceLeDiff, Nat.reduceSub, u8At_natBytes_one,
      u32At_natBytes_four]
  case refine_4 => exact u16At_optU16 hn hd _
  all_goals omega

/-- Settles O45, part by part. -/
theorem framesOnTheWire : Obligations.FramesOnTheWire := by
  refine ⟨by decide, fun l rest i a b x y => ⟨u8At_eq, fun h => ⟨u16At_eq h, s16At_eq h⟩, fun h => ⟨u32At_eq h, s32At_eq h⟩⟩,
    ⟨rfl, crc16_check, crc16_append⟩, ?_, ?_, ?_, readSample_eq⟩
  · rintro f n x rfl hstage hcurrent
    have hcommand : f.command.code + (if f.rep then 128 else 0) < 256 := by cases f.command <;> cases f.rep <;> decide
    have hfits : fitsS16 (if f.command = .run then f.current else 0) := by
      split
      · exact hcurrent
      · decide
    refine ⟨rfl, ?_, sealedFrame_buildFrame .., ?_, ?_, ?_, ?_⟩
    · exact (toNat_ofNat_byte f.stage).trans (Nat.mod_eq_of_lt (by omega))
    all_goals rw [setpointFrame_payload]
    · rfl
    · rfl
    · simp only [u8At_skip, List.length_singleton, Nat.reduceLeDiff, Nat.reduceSub, u8At_natBytes_one]
      exact Nat.mod_eq_of_lt hcommand
    · simp only [s16At_skip, List.length_singleton, length_natBytes, Nat.reduceLeDiff, Nat.reduceSub]
      exact s16At_intBytes_two hfits _
  · rintro addr a x rfl
    exact ⟨rfl, rfl, sealedFrame_buildFrame .., answerFrame_payload addr a⟩
  · rintro addr r x p o rfl rfl ho hd
    have hp : (reportFrame addr r).payload = recordHead r ++ bodyBytes r.body := recordBytes_eq r
    have hlen : (recordHead r).length = o := (length_recordHead r).trans ho.symm
    rw [hp]
    obtain ⟨hkind, hchannel, htick, hdropped⟩ := recordHead_fields r hd (bodyBytes r.body)
    refine ⟨rfl, rfl, sealedFrame_buildFrame .., ?_, hchannel, htick, hdropped, ?_⟩
    · rw [hkind]
      cases r.body <;> rfl
    · cases r.body with
      | stepEnd b =>
        intro hsel hindex htime hcharge henergy hv hi ht
        obtain ⟨h₁, h₂, h₃, h₄, h₅, h₆, h₇, h₈, h₉, h₁₀, h₁₁⟩ :=
          stepEndBytes_fields rfl hsel hindex htime hcharge henergy hv hi ht
        refine ⟨(u8At_append hlen 0).trans h₁, ?_⟩
        rw [u16At_append hlen, u8At_append hlen, u8At_append hlen, u32At_append hlen, s32At_append hlen, s32At_append hlen,
          u16At_append hlen, s16At_append hlen, s16At_append hlen, List.length_append, hlen, h₁₁]
        exact ⟨h₂, h₃, h₄, h₅, h₆, h₇, h₈, h₉, h₁₀, rfl⟩
      | cycleEnd b =>
        intro hcycle hqi hqo hei heo hdur heff
        obtain ⟨h₁, h₂, h₃, h₄, h₅, h₆, h₇, h₈, h₉⟩ := cycleEndBytes_fields rfl hcycle hqi hqo hei heo hdur heff
        refine ⟨(u8At_append hlen 0).trans h₁, ?_⟩
        rw [u32At_append hlen, u32At_append hlen, u32At_append hlen, u32At_append hlen, u32At_append hlen, u32At_append hlen,
          u16At_append hlen, List.length_append, hlen, h₉]
        exact ⟨h₂, h₃, h₄, h₅, h₆, h₇, h₈, rfl⟩
      | fault b =>
        intro hsel hindex hv hi ht
        obtain ⟨h₁, h₂, h₃, h₄, h₅, h₆, h₇, h₈, h₉⟩ := faultBytes_fields rfl hsel hindex hv hi ht
        refine ⟨(u8At_append hlen 0).trans h₁, ?_⟩
        rw [u8At_append hlen, u8At_append hlen, u8At_append hlen, u16At_append hlen, u16At_append hlen, s16At_append hlen,
          s16At_append hlen, List.length_append, hlen, h₉]
        exact ⟨h₂, h₃, h₄, h₅, h₆, h₇, h₈, rfl⟩
      | state b =>
        obtain ⟨h₁, h₂, h₃, h₄, h₅⟩ := stateBytes_fields (b := b) rfl
        refine ⟨(u8At_append hlen 0).trans h₁, ?_⟩
        rw [u8At_append hlen, u8At_append hlen, u8At_append hlen, List.length_append, hlen, h₅]
        exact ⟨h₂, h₃, h₄, rfl⟩

end Sys2Proof.Proofs
end
